-- ==== Sys2Proof/Word.lean ====
section
/-! DEFINITION. The word type of the serial line: a byte of a frame (R160).
Everything the part counts, measures or clamps is a natural number with the range its rule gives;
only the bytes on the wire are bits. -/

namespace Sys2Proof

/-- A byte on RXD or TXD: 8 data bits (R160). -/
abbrev Byte := BitVec 8

end Sys2Proof
end

