-- ==== Sys2Proof/Syntax.lean ====
section
/-! DEFINITION. The commands of the part: one constructor for each row of spec/opcode_table.json.
A request row carries the payload fields of R176, in their order, as the numbers the host sends;
a row about one of the part's own units names that unit; a row that brings something from outside
(a pin, a measured figure, the outcome of a read-back) carries it. -/

namespace Sys2Proof

/-- Where a switch pin is held (R1). -/
inductive Contact
  /-- held near earth -/
  | earth
  /-- held near the supply -/
  | supply
  /-- nothing holds the pin: a broken wire or an unplugged switch -/
  | openCircuit
deriving DecidableEq, Repr

/-- What stands at a sender pin when a sample completes (R84). -/
inductive SenderPin
  /-- a resistance to earth, in thousandths of an ohm; the part rounds it (R84) -/
  | resistance (milliohms : Nat)
  /-- nothing connected, or the sender wire broken -/
  | broken
  /-- held at a voltage above the measuring level -/
  | live
deriving DecidableEq, Repr

/-- A side of the car, as the flasher sees it (R66). -/
inductive Side
  | left
  | right
deriving DecidableEq, Repr

/-- The commands. -/
inductive Instr
  -- the part as a whole
  | powerOnReset
  | partRestart
  -- the serial line
  | frameReceived (chk : Byte)
  | frameBadLength (len : Byte)
  | frameGapTimeout
  | replySent
  | unknownKindRequest (kind : Byte)
  -- requests: identity, restart, events, link
  | hello
  | restart
  | readEvents
  | setEvent (event enable level : Nat)
  | setAttnLevel (threshold : Nat)
  | setLinkTimeout (timeout : Nat)
  -- requests: demands and inputs
  | readDemand (function reserve : Nat)
  | setDemand (function value : Nat)
  | setDemandIf (function value : Nat)
  | releaseDemand (function : Nat)
  | setFunction (function mode : Nat)
  | setInput (input function action level polarity debounce : Nat)
  | readInputs (input : Nat)
  -- requests: lighting
  | setMap (entry role first last enabled : Nat)
  | readMap (entry : Nat)
  | setRole (role cls : Nat)
  | setChannel (channel profile inrush pullIn hold run inrushLimit openThreshold substitute : Nat)
  | readChannel (channel : Nat)
  | clearChannel (channel : Nat)
  | setFlasher (rate runOn : Nat)
  | readFlasher
  -- requests: gauges and senders
  | setGauge (gauge binding law k policy : Nat)
  | readGauge (gauge clear : Nat)
  | setGaugePosition (gauge position : Nat)
  | setSender (sender short openAt : Nat)
  | readSender (sender : Nat)
  -- requests: fan and supply
  | setFan (duty0 duty1 duty2 duty3 ramp settle stall ignitionFed : Nat)
  | readFan
  | setSupply (cls lean shed crankEnter crankExit hysteresis chargeMargin storeMinimum budget : Nat)
  | readSupply (clear : Nat)
  -- requests: store
  | tableOpen (table start : Nat)
  | tablePoint (x y : Nat)
  | tableCommit (length : Nat)
  | tableRead (table index : Nat)
  | saveSettings
  | readStore
  -- events of the store, the link and the inputs
  | programmingComplete (agrees : Bool)
  | limpEntry
  | switchRawChange (input : Fin 12) (contact : Contact)
  | debounceExpiry (input : Fin 12)
  -- events of the flasher and the channels
  | runOnExpiry (side : Side)
  | phaseBoundary
  | inrushEnd (channel : Fin 16)
  | pullInEnd (channel : Fin 16)
  | channelSample (channel : Fin 16) (milliamps : Nat)
  | lampOpenDetect (channel : Fin 16)
  | lampOpenClear (channel : Fin 16)
  | goodRunExpiry (channel : Fin 16)
  | tripWaitEnd (channel : Fin 16)
  -- events of the senders, the gauges and the drivers
  | senderSample (sender : Fin 4) (pin : SenderPin)
  | gaugeUpdate (gauge : Fin 4)
  | driverSample (gauge : Fin 4) (milliamps : Nat)
  | driverWaitEnd (gauge : Fin 4)
  -- events of the fan
  | settleWindowEnd
  | fanRampStep
  | fanSample (milliamps : Nat)
  | fanStall
  | stallWaitEnd
  | fanOpenDetect
  | fanOpenClear
  -- events of the supply watch
  | sampleSlot (bat dyn : Nat)
  | leanTimerExpiry
  | budgetTimerExpiry
  | recoveryTimerExpiry
  | shedTimerExpiry
  | unshedTimerExpiry
  | crankExitTimerExpiry
  | crankLimitTimerExpiry
  -- power and the wire's bytes
  | powerLoss
  | byteReceived (byte : Byte)
deriving DecidableEq, Repr

end Sys2Proof
end

