-- ==== Sys2Proof/Decode.lean ====
section
/-! DEFINITION. The commands that a word spells by the bits of spec/opcode_table.json.
The table gives no row any bits ("fields" is empty in all 77), so no word spells a command (log 33).
What the host's bytes spell is told by the frame rules, in Machine/Frames.lean. -/

namespace Sys2Proof

/-- The command whose bits are `w`: none, since no row of the table gives bits (log 33). -/
def decodeTableWord (_nbits _w : Nat) : Option Instr := none

end Sys2Proof
end

