-- ==== Sys2Proof/Config.lean ====
section
/-! DEFINITION. What the spec leaves to the part and does not fix: free values without a body.
Nothing in Lean can evaluate them, so a claim holds whatever they are. -/

namespace Sys2Proof.Config

/-- A current is measured "in steps of 10 mA" (R41, R110, R119) and no rule says how a current between two
steps is rounded: whether it reads as the upper of the two. Free value, log 5. -/
opaque currentReadsUp : Nat → Bool

/-- BAT and DYN are taken "to the nearest 10 mV" (R133) and no rule says how a voltage exactly half way
is rounded: whether it reads as the upper of the two. Free value, log 6. -/
opaque voltageTieReadsUp : Nat → Bool

/-- A resistance is reported "rounded to the nearest tenth of an ohm" (R84) and no rule says how one exactly half way
is rounded: whether it reads as the upper of the two. Free value, log 7. -/
opaque resistanceTieReadsUp : Nat → Bool

/-- Whether the read-back at the end of a programming agrees (R151, R156): no rule says when it does. Free value,
one for each command the clock issues, log 22. -/
opaque readBackAgrees : Nat → Bool

end Sys2Proof.Config
end

