-- ==== Sys2Proof/Machine/Records.lean ====
section
/-! DEFINITION. The records the blocks keep, one type for each, and the named things of the part
(functions, roles, events, modes, states) with the numbers of R177. -/

namespace Sys2Proof.Machine

/-- A vector given by its entries; it is built from a list, so that Lean's kernel can evaluate it. -/
def vecOfFn {α : Type} {n : Nat} (f : Fin n → α) : Vector α n :=
  ⟨⟨List.ofFn f⟩, by simp⟩

/-! ### The named things -/

/-- The thirteen functions F0 to F12 (the table of R9). -/
inductive Fn
  | ign | side | head | beam | indL | indR | hazard | stop | instr | interior | fog | reverse | fan
deriving DecidableEq, Repr

/-- The function's number (R9, R177). -/
def Fn.idx : Fn → Fin 13
  | .ign => 0 | .side => 1 | .head => 2 | .beam => 3 | .indL => 4 | .indR => 5 | .hazard => 6
  | .stop => 7 | .instr => 8 | .interior => 9 | .fog => 10 | .reverse => 11 | .fan => 12

/-- Every function, from F0 to F12. -/
def Fn.all : List Fn :=
  [.ign, .side, .head, .beam, .indL, .indR, .hazard, .stop, .instr, .interior, .fog, .reverse, .fan]

/-- The function of a number. -/
def Fn.ofIdx (i : Fin 13) : Fn :=
  match i with
  | 0 => .ign | 1 => .side | 2 => .head | 3 => .beam | 4 => .indL | 5 => .indR | 6 => .hazard
  | 7 => .stop | 8 => .instr | 9 => .interior | 10 => .fog | 11 => .reverse | 12 => .fan

/-- The top of the function's range, which starts at 0 (R9). -/
def Fn.maxValue : Fn → Nat
  | .instr => 1000
  | .fan => 3
  | _ => 1

/-- The function's rest value (R9). -/
def Fn.restValue : Fn → Nat
  | .instr => 1000
  | _ => 0

/-- The fifteen roles, 0 to 14 (the table of R23). -/
inductive Role
  | side | dip | main | indL | indR | stop | instr | interior | fog | reverse | chargeTell | indTell
  | mainTell | armL | armR
deriving DecidableEq, Repr

/-- The role's number (R23, R177). -/
def Role.idx : Role → Fin 15
  | .side => 0 | .dip => 1 | .main => 2 | .indL => 3 | .indR => 4 | .stop => 5 | .instr => 6
  | .interior => 7 | .fog => 8 | .reverse => 9 | .chargeTell => 10 | .indTell => 11 | .mainTell => 12
  | .armL => 13 | .armR => 14

/-- The role of a number. -/
def Role.ofIdx (i : Fin 15) : Role :=
  match i with
  | 0 => .side | 1 => .dip | 2 => .main | 3 => .indL | 4 => .indR | 5 => .stop | 6 => .instr
  | 7 => .interior | 8 => .fog | 9 => .reverse | 10 => .chargeTell | 11 => .indTell | 12 => .mainTell
  | 13 => .armL | 14 => .armR

/-- The flashing roles; every other role is steady (R23). -/
def Role.isFlashing : Role → Bool
  | .indL | .indR | .indTell => true
  | _ => false

/-- The sixteen events, 0 to 15 (the table of R169). -/
inductive Event
  | restarted | linkLost | linkOverrun | demandChange | lampOpen | lampShort | channelLocked
  | indTimeout | gaugeFault | gaugeSat | fanStall | fanLocked | supplyState | chargeWarn | storeDone
  | storeFail
deriving DecidableEq, Repr

/-- The event's number (R169). -/
def Event.idx : Event → Fin 16
  | .restarted => 0 | .linkLost => 1 | .linkOverrun => 2 | .demandChange => 3 | .lampOpen => 4
  | .lampShort => 5 | .channelLocked => 6 | .indTimeout => 7 | .gaugeFault => 8 | .gaugeSat => 9
  | .fanStall => 10 | .fanLocked => 11 | .supplyState => 12 | .chargeWarn => 13 | .storeDone => 14
  | .storeFail => 15

/-- Source modes (R9). -/
inductive SourceMode | switchOnly | linkOnly | shared
deriving DecidableEq, Repr

/-- What an input does to its function (R4). -/
inductive Action | level | toggle | step
deriving DecidableEq, Repr

/-- The polarity of an input (R1, R4). -/
inductive Polarity | activeToEarth | activeToSupply
deriving DecidableEq, Repr

/-- The debounced state of an input (R2). -/
inductive Debounced | unsettled | inactive | active
deriving DecidableEq, Repr

/-- Channel profiles (R42). -/
inductive Profile | lamp | led | solenoid
deriving DecidableEq, Repr

/-- The seven states of a channel (R45). -/
inductive ChannelState | off | inrush | on | pullIn | hold | tripWait | lockedOff
deriving DecidableEq, Repr

/-- What a channel is asked to do (R34, R37). -/
inductive Demand
  | none
  | steady (duty : Nat)
  | flash
deriving DecidableEq, Repr

/-- The cadence states (R67). -/
inductive Cadence | idle | onPhase | offPhase
deriving DecidableEq, Repr

/-- Sender bands (R86). -/
inductive Band | low | valid | high
deriving DecidableEq, Repr

/-- Sender states (R87). -/
inductive SenderState | ok | open | shorted
deriving DecidableEq, Repr

/-- Gauge laws (R95). -/
inductive Law | thermal | magnetic
deriving DecidableEq, Repr

/-- Fault policies (R95, R100). -/
inductive Policy | hold | rest | full
deriving DecidableEq, Repr

/-- Driver states (R110). -/
inductive DriverState | driving | waiting
deriving DecidableEq, Repr

/-- Fan states (R120). -/
inductive FanState | off | ramp | run | stallWait | stallLock
deriving DecidableEq, Repr

/-- Supply states (R139). -/
inductive SupplyState | normal | lean | shed | crank
deriving DecidableEq, Repr

/-- System classes (R137). -/
inductive SystemClass | volt12 | volt6
deriving DecidableEq, Repr

/-- Causes in the failure record (R152, R156). -/
inductive FailureCause | invalidAtStart | lowSupply | verify
deriving DecidableEq, Repr

/-- Statuses of replies (R163). -/
inductive Status
  | ok | badCheck | badLength | unknownKind | badArg | inUse | busy | notOpen | stageFull
  | notMonotonic | notRemote
deriving DecidableEq, Repr

/-! ### The settings of page S -/

/-- An input's binding record (R4). -/
structure Binding where
  function : Option Fn
  action : Action
  level : Nat
  polarity : Polarity
  debounce : Nat
deriving DecidableEq, Repr

/-- A map entry (R31). -/
structure MapEntry where
  role : Role
  first : Fin 16
  last : Fin 16
  enabled : Bool
deriving DecidableEq, Repr

/-- A channel's configuration record (R42). -/
structure ChannelConfig where
  profile : Profile
  inrushWindow : Nat
  pullIn : Nat
  holdDuty : Nat
  runLimit : Nat
  inrushLimit : Nat
  openThreshold : Nat
  substitute : Option (Fin 16)
deriving DecidableEq, Repr

/-- A gauge's four settings (R95). -/
structure GaugeConfig where
  binding : Option (Fin 4)
  law : Law
  k : Nat
  policy : Policy
deriving DecidableEq, Repr

/-- A sender's thresholds in tenths of an ohm (R86). -/
structure SenderConfig where
  shortAt : Nat
  openAt : Nat
deriving DecidableEq, Repr

/-- The fan's settings (R121). The duty of step 0 is always 0 and is not kept. -/
structure FanConfig where
  duty1 : Nat
  duty2 : Nat
  duty3 : Nat
  rampStep : Nat
  settleWindow : Nat
  stallLimit : Nat
  ignitionFed : Bool
deriving DecidableEq, Repr

/-- The supply watch's settings (R137). -/
structure SupplyConfig where
  cls : SystemClass
  lean : Nat
  shed : Nat
  crankEnter : Nat
  crankExit : Nat
  hysteresis : Nat
  chargeMargin : Nat
  storeMinimum : Nat
  budget : Nat
deriving DecidableEq, Repr

/-- An event's two settings (R169). -/
structure EventConfig where
  enable : Bool
  level : Nat
deriving DecidableEq, Repr

/-- Every setting of page S (R151), the source modes of R9 among them. -/
structure Settings where
  bindings : Vector Binding 12
  modes : Vector SourceMode 13
  shedClasses : Vector Nat 15
  map : Vector MapEntry 16
  channels : Vector ChannelConfig 16
  flashRate : Nat
  runOnLimit : Nat
  gauges : Vector GaugeConfig 4
  senders : Vector SenderConfig 4
  fan : FanConfig
  supply : SupplyConfig
  events : Vector EventConfig 16
  attnThreshold : Nat
  linkTimeout : Nat
deriving DecidableEq, Repr

/-! ### Tables and the store -/

/-- A point of a table (R97). -/
structure Point where
  x : Nat
  y : Nat
deriving DecidableEq, Repr

/-- A table's points, in order (R97). -/
abbrev Table := List Point

/-- What a programming writes (R155, R157). -/
inductive Image
  | table (page : Fin 8) (points : Table)
  | settings (image : Settings)
deriving DecidableEq, Repr

/-- The programming record (R155, R157) with the time since the programming began (R151). -/
structure Programming where
  image : Image
  elapsed : Nat
deriving DecidableEq, Repr

/-- The failure record (R152, R156): a page, 0 to 8, and a cause. -/
structure Failure where
  page : Fin 9
  cause : FailureCause
deriving DecidableEq, Repr

/-- The staging buffer while it is open (R153). -/
structure Staging where
  table : Fin 8
  pointer : Nat
  length : Nat
  slots : Vector Point 16
deriving DecidableEq, Repr

/-- The store (R151): a page that holds none has no valid mark. -/
structure Store where
  tablePages : Vector (Option Table) 8
  settingsPage : Option Settings
  programming : Option Programming
  failure : Option Failure
  staging : Option Staging
deriving DecidableEq, Repr

/-! ### Working state of the blocks -/

/-- A switch input (R1, R2). -/
structure Input where
  contact : Contact
  debounced : Debounced
  count : Nat
deriving DecidableEq, Repr

/-- A function record less its source mode, which is a setting (R9). -/
structure FnRecord where
  switch : Nat
  link : Option Nat
  effective : Nat
  latch : Bool
deriving DecidableEq, Repr

/-- The cadence record and the run-on timers (R67). A run-on timer is none while it is stopped at zero. -/
structure Flasher where
  cadence : Cadence
  phaseTimer : Nat
  phaseLength : Nat
  doubled : Bool
  leftRunOn : Option Nat
  rightRunOn : Option Nat
deriving DecidableEq, Repr

/-- A channel's state record (R45). An open-test run is none while it is held at zero (log 31). -/
structure Channel where
  state : ChannelState
  tripCount : Nat
  openFlag : Bool
  activation : Nat
  lowRun : Option Nat
  highRun : Option Nat
  goodRun : Nat
  wait : Nat
  current : Nat
deriving DecidableEq, Repr

/-- A sender's record (R85, R87). -/
structure Sender where
  latest : Option Nat
  band : Option Band
  runCount : Nat
  state : SenderState
deriving DecidableEq, Repr

/-- A gauge record's working state and its driver (R95, R110), with the time since the gauge's
last update (R96). -/
structure Gauge where
  linkPosition : Nat
  target : Nat
  filtered : Nat
  required : Nat
  duty : Nat
  low : Bool
  high : Bool
  sat : Bool
  fault : Bool
  sum : Bool
  driver : DriverState
  driverSample : Nat
  driverWait : Nat
  sinceUpdate : Nat
deriving DecidableEq, Repr

/-- The fan record's working state (R120). The settle timer is none while stopped; a run is none
while it is held at zero (log 31). `rampSteps` counts the ramp steps taken at the ramp timer's multiples of 100 ms
since RAMP was entered (R124, log 29). -/
structure Fan where
  state : FanState
  dutyNow : Nat
  targetStep : Nat
  settle : Option Nat
  rampTimer : Nat
  rampSteps : Nat
  stallRun : Option Nat
  waitTimer : Nat
  stallCount : Nat
  openFlag : Bool
  lowRun : Option Nat
  highRun : Option Nat
  current : Nat
deriving DecidableEq, Repr

/-- A supply timer (R135): whether it has started, its slot count 0 to 99 and its whole seconds. -/
structure SupplyTimer where
  started : Bool
  slots : Nat
  seconds : Nat
deriving DecidableEq, Repr

/-- The seven supply timers (R135). -/
structure SupplyTimers where
  lean : SupplyTimer
  budget : SupplyTimer
  recovery : SupplyTimer
  shed : SupplyTimer
  unshed : SupplyTimer
  crankExit : SupplyTimer
  crankLimit : SupplyTimer
deriving DecidableEq, Repr

/-- The supply record (R134 to R147). The samples are the last eight, newest first. -/
structure Supply where
  state : SupplyState
  batSamples : List Nat
  dynSamples : List Nat
  batMean : Option Nat
  dynMean : Option Nat
  totalLoad : Nat
  timers : SupplyTimers
  armed : Bool
  charge : Bool
  lowSeen : Bool
  minBat : Option Nat
deriving DecidableEq, Repr

/-! ### The serial link -/

/-- A frame less its start, length and check bytes, which follow from these (R160). -/
structure Frame where
  kind : Byte
  payload : List Byte
deriving DecidableEq, Repr

/-- The receiver (R161): hunting, or collecting and waiting for the byte named. -/
inductive Receiver
  | hunting
  /-- the start byte has come, LEN is next -/
  | wantLen
  /-- LEN has come, KIND is next -/
  | wantKind (len : Byte)
  /-- KIND has come; the payload bytes taken so far are kept in their order -/
  | wantPayload (len kind : Byte) (taken : List Byte)
  /-- the payload is complete, CHK is next -/
  | wantCheck (len : Byte) (frame : Frame)
deriving DecidableEq, Repr

/-- A reply that has not left the transmitter (R161, R163). -/
inductive Outgoing
  /-- the reply to a request -/
  | reply (frame : Frame)
  /-- a FRAME_ERROR with its status -/
  | frameError (status : Status)
  /-- the place of the pending frame's reply, whose cause was found when the frame's check passed (log 16) -/
  | awaited
deriving DecidableEq, Repr

/-- The link block (R161, R162, R166, R167). -/
structure Link where
  receiver : Receiver
  gap : Nat
  served : Option Frame
  pendingFrame : Option Frame
  outbox : List Outgoing
  limp : Bool
  timer : Nat
deriving DecidableEq, Repr

/-- An event record's working state (R169). -/
structure EventRecord where
  flag : Bool
  detail : Nat
deriving DecidableEq, Repr

end Sys2Proof.Machine
end

