-- ==== Sys2Proof/Machine/Start.lean ====
section
/-! DEFINITION. Factory values (R22, R40, R65, R83, R94, R118, R132, R150, R173) and the value each block's
working state has after power-on reset and after RESTART (R21, R39, R64, R82, R93, R117, R132, R149, R173). -/

namespace Sys2Proof.Machine

/-! ### Factory settings -/

/-- The common factory binding of R22: LEVEL, active to earth, level value 1, debounce 20 ms. -/
def factoryBinding (f : Fn) : Binding :=
  { function := some f, action := .level, level := 1, polarity := .activeToEarth, debounce := 20 }

/-- The factory bindings (R22). -/
def factoryBindings : Vector Binding 12 :=
  #v[factoryBinding .ign, factoryBinding .side, factoryBinding .head, factoryBinding .beam,
     factoryBinding .indL, factoryBinding .indR, factoryBinding .hazard,
     { factoryBinding .stop with polarity := .activeToSupply },
     { factoryBinding .fan with action := .step },
     factoryBinding .interior, factoryBinding .reverse, factoryBinding .fog]

/-- The factory source mode of a function (R22). -/
def factoryMode : Fn → SourceMode
  | .ign | .stop | .hazard => .switchOnly
  | .instr => .linkOnly
  | _ => .shared

/-- The factory shed class of a role (the table of R23). -/
def factoryShedClass : Role → Nat
  | .main | .instr | .reverse => 1
  | .fog => 2
  | .interior => 3
  | _ => 0

/-- The factory map (R40). -/
def factoryMap : Vector MapEntry 16 :=
  #v[⟨.side, 0, 1, true⟩, ⟨.side, 8, 9, true⟩, ⟨.dip, 2, 3, true⟩, ⟨.main, 4, 5, true⟩,
     ⟨.indL, 6, 6, true⟩, ⟨.indR, 7, 7, true⟩, ⟨.indL, 10, 10, true⟩, ⟨.indR, 11, 11, true⟩,
     ⟨.stop, 10, 11, true⟩, ⟨.instr, 12, 12, true⟩, ⟨.indTell, 13, 13, true⟩,
     ⟨.mainTell, 14, 14, true⟩, ⟨.chargeTell, 15, 15, true⟩, ⟨.side, 0, 0, false⟩,
     ⟨.side, 0, 0, false⟩, ⟨.side, 0, 0, false⟩]

/-- A channel of the heavy group, CH0 to CH7; the others are light (R41). -/
def isHeavy (c : Fin 16) : Bool := c.val < 8

/-- The factory configuration of a channel (R65). -/
def factoryChannel (c : Fin 16) : ChannelConfig :=
  { profile := .lamp, inrushWindow := 100, pullIn := 300, holdDuty := 400,
    runLimit := if isHeavy c then 10000 else 3000,
    inrushLimit := if isHeavy c then 30000 else 8000,
    openThreshold := 150, substitute := none }

/-- The factory gauge settings (R118). -/
def factoryGauges : Vector GaugeConfig 4 :=
  #v[⟨some 0, .thermal, 16, .rest⟩, ⟨some 1, .thermal, 64, .rest⟩,
     ⟨some 2, .magnetic, 128, .rest⟩, ⟨none, .magnetic, 256, .rest⟩]

/-- The factory fan settings (R132). -/
def factoryFan : FanConfig :=
  { duty1 := 450, duty2 := 700, duty3 := 1000, rampStep := 100, settleWindow := 1500,
    stallLimit := 9000, ignitionFed := true }

/-- The default thresholds of a class (the table of R137), with no load budget. -/
def classDefaults : SystemClass → SupplyConfig
  | .volt12 => ⟨.volt12, 11800, 10500, 9000, 10000, 300, 1000, 9500, 0⟩
  | .volt6 => ⟨.volt6, 5900, 5250, 4800, 5200, 150, 500, 5000, 0⟩

/-- The factory level of an event (R173). -/
def factoryEventLevel : Fin 16 → Nat := fun e =>
  if e = Event.lampShort.idx ∨ e = Event.channelLocked.idx ∨ e = Event.chargeWarn.idx
      ∨ e = Event.fanLocked.idx then 6
  else if e = Event.storeFail.idx ∨ e = Event.linkLost.idx then 5
  else 3

/-- The settings of a part whose page S is not valid. -/
def factorySettings : Settings :=
  { bindings := factoryBindings
    modes := vecOfFn fun i => factoryMode (Fn.ofIdx i)
    shedClasses := vecOfFn fun i => factoryShedClass (Role.ofIdx i)
    map := factoryMap
    channels := vecOfFn factoryChannel
    flashRate := 90
    runOnLimit := 60
    gauges := factoryGauges
    senders := Vector.replicate 4 ⟨5, 5000⟩
    fan := factoryFan
    supply := classDefaults .volt12
    events := vecOfFn fun e => ⟨true, factoryEventLevel e⟩
    attnThreshold := 2
    linkTimeout := 2000 }

/-- The factory content of a table page (R118): T0 to T3 are sender tables, T4 to T7 gauge tables. -/
def factoryTable (page : Fin 8) : Table :=
  if page.val < 4 then [⟨0, 0⟩, ⟨5000, 1000⟩] else [⟨0, 0⟩, ⟨1000, 10000⟩]

/-! ### The mode evaluation, which start-up uses -/

/-- The mode evaluation of R9: the effective value of a function's record under a source mode. -/
def modeEvaluation (f : Fn) (mode : SourceMode) (r : FnRecord) : Nat :=
  if r.latch then 0
  else match mode, r.link with
    | .switchOnly, _ => r.switch
    | .linkOnly, some v => v
    | .linkOnly, none => f.restValue
    | .shared, some v => v
    | .shared, none => r.switch

/-- Whether some input is bound to the function, with whatever action. -/
def isBound (bindings : Vector Binding 12) (f : Fn) : Bool :=
  bindings.toList.any fun b => b.function == some f

/-! ### Working state after a reset -/

/-- A function record after a reset (R21). -/
def startFunction (settings : Settings) (f : Fn) : FnRecord :=
  let r : FnRecord :=
    { switch := if isBound settings.bindings f then 0 else f.restValue
      link := none, effective := 0, latch := false }
  { r with effective := modeEvaluation f settings.modes[f.idx] r }

/-- An input after a reset: UNSETTLED, its count starting (R3, R21). -/
def startInput (contact : Contact) : Input :=
  { contact := contact, debounced := .unsettled, count := 0 }

/-- The flasher after a reset (R82). -/
def startFlasher : Flasher :=
  { cadence := .idle, phaseTimer := 0, phaseLength := 0, doubled := false,
    leftRunOn := none, rightRunOn := none }

/-- A channel after a reset (R64); the current is DESIGN CHOICE, unsafe, log 21. -/
def startChannel : Channel :=
  { state := .off, tripCount := 0, openFlag := false, activation := 0, lowRun := none,
    highRun := none, goodRun := 0, wait := 0, current := 0 }

/-- A sender after a reset (R93). -/
def startSender : Sender :=
  { latest := none, band := none, runCount := 0, state := .ok }

/-- A gauge and its driver after a reset (R117). -/
def startGauge : Gauge :=
  { linkPosition := 0, target := 0, filtered := 0, required := 0, duty := 0, low := false,
    high := false, sat := false, fault := false, sum := false, driver := .driving,
    driverSample := 0, driverWait := 0, sinceUpdate := 0 }

/-- The fan after a reset (R132); the current is DESIGN CHOICE, unsafe, log 21. -/
def startFan : Fan :=
  { state := .off, dutyNow := 0, targetStep := 0, settle := none, rampTimer := 0,
    rampSteps := 0, stallRun := none, waitTimer := 0, stallCount := 0, openFlag := false, lowRun := none,
    highRun := none, current := 0 }

/-- A supply timer at zero (R135). -/
def SupplyTimer.zero : SupplyTimer := { started := false, slots := 0, seconds := 0 }

/-- All seven supply timers at zero. -/
def SupplyTimers.zero : SupplyTimers :=
  { lean := .zero, budget := .zero, recovery := .zero, shed := .zero, unshed := .zero,
    crankExit := .zero, crankLimit := .zero }

/-- The supply watch after a reset (R149); the total load before the first slot is DESIGN CHOICE,
unsafe, log 21. -/
def startSupply : Supply :=
  { state := .normal, batSamples := [], dynSamples := [], batMean := none, dynMean := none,
    totalLoad := 0, timers := .zero, armed := true, charge := false, lowSeen := false,
    minBat := none }

/-- The link block after a reset (R173); the gap count of a hunting receiver is DESIGN CHOICE, unsafe, log 42. -/
def startLink : Link :=
  { receiver := .hunting, gap := 0, served := none, pendingFrame := none, outbox := [],
    limp := false, timer := 0 }

/-- An event record with its flag clear; the detail of an event never set is DESIGN CHOICE, unsafe,
log 21. -/
def clearEvent : EventRecord := { flag := false, detail := 0 }

/-- The highest-numbered page that is not valid, if any: pages are read in the order T0 to T7 and then S,
and the last invalid one leaves its mark (R152). -/
def lastInvalidPage (tablePages : Vector (Option Table) 8) (settingsPage : Option Settings) :
    Option (Fin 9) :=
  if settingsPage.isNone then some 8
  else (List.finRange 8).foldl
    (fun last p => if tablePages[p].isNone then some (p.castLE (by decide)) else last) none

/-- The event records after a reset: all clear, then STORE_FAIL for the invalid pages (R152), then
RESTARTED with detail 0 after power-on reset or 1 after RESTART (R173). -/
def startEvents (lastInvalid : Option (Fin 9)) (restartedDetail : Nat) : Vector EventRecord 16 :=
  let afterStore := match lastInvalid with
    | none => Vector.replicate 16 clearEvent
    | some p => (Vector.replicate 16 clearEvent).set Event.storeFail.idx ⟨true, p.val⟩
  afterStore.set Event.restarted.idx ⟨true, restartedDetail⟩

/-- The store after a reset (R152): its pages as they were, idle, staging closed. -/
def startStore (tablePages : Vector (Option Table) 8) (settingsPage : Option Settings) : Store :=
  { tablePages := tablePages, settingsPage := settingsPage, programming := none,
    failure := (lastInvalidPage tablePages settingsPage).map fun p => ⟨p, .invalidAtStart⟩,
    staging := none }

/-- The active tables after a reset: each page's content, or the factory table (R117, R152). -/
def startTables (tablePages : Vector (Option Table) 8) : Vector Table 8 :=
  vecOfFn fun p => tablePages[p].getD (factoryTable p)

end Sys2Proof.Machine
end

