-- ==== Sys2Proof/Machine/State.lean ====
section
/-! DEFINITION. The state of the part as plain data, the reasons a command could stop, and the state right
after power-on reset of a factory-fresh part. -/

namespace Sys2Proof.Machine

/-- Everything the spec gives the part, and the queue of commands that wait (INVENTORY.md lists each
field with its rule and its reset value). -/
structure State where
  /-- the commands that wait, first in, first out -/
  pending : List Instr
  /-- running, rather than held in power-on reset (R149) -/
  powered : Bool
  /-- a RESTART has been accepted and the restart is still to come (R165) -/
  restarting : Bool
  /-- SW0 to SW11 (R1, R2) -/
  inputs : Vector Input 12
  /-- F0 to F12 (R9) -/
  functions : Vector FnRecord 13
  /-- the reservation record (R16) -/
  reservation : Option Fn
  /-- the cadence record and the run-on timers (R67) -/
  flasher : Flasher
  /-- CH0 to CH15 (R45) -/
  channels : Vector Channel 16
  /-- SN0 to SN3 (R85, R87) -/
  senders : Vector Sender 4
  /-- G0 to G3 with GD0 to GD3 (R95, R110) -/
  gauges : Vector Gauge 4
  /-- the fan record (R120) -/
  fan : Fan
  /-- the supply record (R134 to R147) -/
  supply : Supply
  /-- the non-volatile pages, the programming record, the failure record, staging (R151 to R156) -/
  store : Store
  /-- the serial link (R161, R162, R166, R167) -/
  link : Link
  /-- flags and details of the sixteen events (R169) -/
  events : Vector EventRecord 16
  /-- the working copy of page S (R151, R152) -/
  settings : Settings
  /-- the active tables T0 to T7 (R97) -/
  tables : Vector Table 8
  /-- the model's own: how many commands the clock has issued on an empty queue; it picks the free value of the
  read-back (log 22) -/
  clockActs : Nat
deriving DecidableEq, Repr

/-- Why the part stops. The spec gives the part no stop: nothing raises a fault, and the type has no
constructor, which is safe. -/
inductive Fault
deriving DecidableEq, Repr

/-- Why a command has no meaning. -/
inductive Refusal
  /-- A command of the table without a meaning in this model; raised by an arm of exec only, and by none
  of them now. Safe: the model stops where the part goes on. -/
  | notModelled (mnemonic : String)
deriving DecidableEq, Repr

/-- The part right after power-on reset, as it comes from the factory: no page was ever written, so all
nine are invalid and every setting and table has its factory value (R152, log 8); nothing holds a
switch pin (DESIGN CHOICE, unsafe, log 9); no command waits. -/
def State.reset : State :=
  { pending := []
    powered := true
    restarting := false
    inputs := Vector.replicate 12 (startInput .openCircuit)
    functions := vecOfFn fun i => startFunction factorySettings (Fn.ofIdx i)
    reservation := none
    flasher := startFlasher
    channels := Vector.replicate 16 startChannel
    senders := Vector.replicate 4 startSender
    gauges := Vector.replicate 4 startGauge
    fan := startFan
    supply := startSupply
    store := startStore (Vector.replicate 8 none) none
    link := startLink
    events := startEvents (some 8) 0
    settings := factorySettings
    tables := vecOfFn factoryTable
    clockActs := 0 }

end Sys2Proof.Machine
end

