-- ==== Sys2Proof/Machine/Ops.lean ====
section
/-! DEFINITION. Named operations over the state: reading and writing one record of each block, the raw level of
an input, and the guards that every command shares. -/

namespace Sys2Proof.Machine

/-! ### One record of each block -/

/-- The record of a function (R9). -/
def State.fn (s : State) (f : Fn) : FnRecord := s.functions[f.idx]

/-- Put a function's record. -/
def State.setFn (s : State) (f : Fn) (r : FnRecord) : State :=
  { s with functions := s.functions.set f.idx r }

/-- The effective value of a function: the one number every other block reads (R9). -/
def State.eff (s : State) (f : Fn) : Nat := (s.fn f).effective

/-- The source mode of a function (R9). -/
def State.mode (s : State) (f : Fn) : SourceMode := s.settings.modes[f.idx]

/-- A switch input. -/
def State.input (s : State) (i : Fin 12) : Input := s.inputs[i]

/-- Put a switch input. -/
def State.setInput (s : State) (i : Fin 12) (x : Input) : State :=
  { s with inputs := s.inputs.set i x }

/-- An input's binding record (R4). -/
def State.binding (s : State) (i : Fin 12) : Binding := s.settings.bindings[i]

/-- A channel's state record. -/
def State.channel (s : State) (c : Fin 16) : Channel := s.channels[c]

/-- Put a channel's state record. -/
def State.setChannel (s : State) (c : Fin 16) (x : Channel) : State :=
  { s with channels := s.channels.set c x }

/-- A channel's configuration record (R42). -/
def State.channelConfig (s : State) (c : Fin 16) : ChannelConfig := s.settings.channels[c]

/-- A sender's record. -/
def State.sender (s : State) (n : Fin 4) : Sender := s.senders[n]

/-- Put a sender's record. -/
def State.setSender (s : State) (n : Fin 4) (x : Sender) : State :=
  { s with senders := s.senders.set n x }

/-- A sender's thresholds (R86). -/
def State.senderConfig (s : State) (n : Fin 4) : SenderConfig := s.settings.senders[n]

/-- A gauge's record. -/
def State.gauge (s : State) (g : Fin 4) : Gauge := s.gauges[g]

/-- Put a gauge's record. -/
def State.setGauge (s : State) (g : Fin 4) (x : Gauge) : State :=
  { s with gauges := s.gauges.set g x }

/-- A gauge's settings (R95). -/
def State.gaugeConfig (s : State) (g : Fin 4) : GaugeConfig := s.settings.gauges[g]

/-- An event's record. -/
def State.event (s : State) (e : Event) : EventRecord := s.events[e.idx]

/-- A map entry (R31). -/
def State.mapEntry (s : State) (e : Fin 16) : MapEntry := s.settings.map[e]

/-- A role's shed class (R23). -/
def State.shedClass (s : State) (r : Role) : Nat := s.settings.shedClasses[r.idx]

/-- The sender table of a gauge is page T<n>, its gauge table page T<n>+4 (R97). -/
def State.senderTable (s : State) (g : Fin 4) : Table := s.tables[g.val]

/-- The gauge table of a gauge (R97). -/
def State.gaugeTable (s : State) (g : Fin 4) : Table := s.tables[g.val + 4]

/-! ### Inputs -/

/-- The raw level of a pin under a polarity: true is active; an open circuit reads inactive whatever the
polarity (R1). -/
def rawLevel (polarity : Polarity) (contact : Contact) : Bool :=
  match polarity, contact with
  | .activeToEarth, .earth => true
  | .activeToSupply, .supply => true
  | _, _ => false

/-- The raw level of an input under its binding record (R1). -/
def State.raw (s : State) (i : Fin 12) : Bool :=
  rawLevel (s.binding i).polarity (s.input i).contact

/-! ### Guards -/

/-- A command acts only while the part runs; a part held in power-on reset takes none (R149, log 10). -/
def State.whenPowered (s : State) (k : State → State) : State :=
  if s.powered then k s else s

end Sys2Proof.Machine
end

