-- ==== Sys2Proof/Machine/Flags.lean ====
section
/-! DEFINITION. Event flags (R169), the ATTN line (R170), and the flag and indication bytes a reply carries. -/

namespace Sys2Proof.Machine

/-- A cause reaches an event: its flag becomes set, whatever its enable, and its detail is overwritten (R169). -/
def State.raise (s : State) (e : Event) (detail : Nat) : State :=
  { s with events := s.events.set e.idx ⟨true, detail⟩ }

/-- ATTN is held low while some event has its flag set, its enable at 1 and its level above the
threshold (R170). A view: it never lags the records (log 27). -/
def State.attnLow (s : State) : Bool :=
  (List.finRange 16).any fun e =>
    s.events[e].flag && s.settings.events[e].enable
      && decide (s.settings.attnThreshold < s.settings.events[e].level)

/-- Raise DEMAND_CHANGE for each function, from F0 to F12, whose effective value differs between two
states (R15). -/
def State.raiseDemandChanges (s before : State) : State :=
  Fn.all.foldl
    (fun t f => if s.eff f = before.eff f then t else t.raise .demandChange f.idx.val) s

/-- The event numbers whose flag is set, in order (R171). -/
def State.setFlags (s : State) : List (Fin 16) :=
  (List.finRange 16).filter fun e => s.events[e].flag

/-- READ_EVENTS clears every flag that it returned, which is every set flag (R171). -/
def State.clearFlags (s : State) : State :=
  { s with events := vecOfFn fun e => { s.events[e] with flag := false } }

/-- One bit of a flags byte. -/
def bit (b : Bool) (weight : Nat) : Nat := if b then weight else 0

/-- DRV is set while the driver is WAITING (R110). -/
def Gauge.drv (g : Gauge) : Bool := g.driver == .waiting

/-- The flags byte of READ_GAUGE: LOW, HIGH, SAT, FAULT, DRV, SUM in bits 0 to 5 (R176). -/
def Gauge.flagsByte (g : Gauge) : Nat :=
  bit g.low 1 + bit g.high 2 + bit g.sat 4 + bit g.fault 8 + bit g.drv 16 + bit g.sum 32

/-- The code of a pair of sides: neither 0, left 1, right 2, both 3 (R177). -/
def sidesCode (left right : Bool) : Nat := bit left 1 + bit right 2

end Sys2Proof.Machine
end

