-- ==== Sys2Proof/Machine/Operands.lean ====
section
/-! DEFINITION. Operand forms: how a request's payload fields are read and how a reply's are written
(R174, R176, R177), and how a measured figure becomes the part's reading. -/

namespace Sys2Proof.Machine

/-! ### Writing reply fields -/

/-- A reply's payload: the status byte, then the fields (R163, R175). -/
abbrev Reply := List Byte

/-- A one-byte field. -/
def u8 (n : Nat) : List Byte := [BitVec.ofNat 8 n]

/-- A two-byte field, least significant byte first (R174). -/
def u16 (n : Nat) : List Byte := [BitVec.ofNat 8 n, BitVec.ofNat 8 (n / 256)]

/-- A four-byte field, least significant byte first (R174). -/
def u32 (n : Nat) : List Byte :=
  [BitVec.ofNat 8 n, BitVec.ofNat 8 (n / 256), BitVec.ofNat 8 (n / 65536),
   BitVec.ofNat 8 (n / 16777216)]

/-- A truth value: 0 for no, 1 for yes (R174). -/
def truth (b : Bool) : List Byte := u8 (bit b 1)

/-- A one-byte field that may be absent, 0xFF (R174). -/
def u8OrNone : Option Nat → List Byte
  | some n => u8 n
  | none => u8 0xFF

/-- A two-byte field that may be absent, 0xFFFF (R174). -/
def u16OrNone : Option Nat → List Byte
  | some n => u16 n
  | none => u16 0xFFFF

/-- The number a two-byte field spells (R174). -/
def pair (lo hi : Byte) : Nat := lo.toNat + 256 * hi.toNat

/-! ### Codes of the enumerated fields (R177) -/

/-- Status codes. -/
def Status.code : Status → Nat
  | .ok => 0 | .badCheck => 1 | .badLength => 2 | .unknownKind => 3 | .badArg => 4 | .inUse => 5
  | .busy => 6 | .notOpen => 7 | .stageFull => 8 | .notMonotonic => 9 | .notRemote => 10

def SourceMode.code : SourceMode → Nat
  | .switchOnly => 0 | .linkOnly => 1 | .shared => 2

def Action.code : Action → Nat
  | .level => 0 | .toggle => 1 | .step => 2

def Polarity.code : Polarity → Nat
  | .activeToEarth => 0 | .activeToSupply => 1

def Debounced.code : Debounced → Nat
  | .unsettled => 0 | .inactive => 1 | .active => 2

def Profile.code : Profile → Nat
  | .lamp => 0 | .led => 1 | .solenoid => 2

def ChannelState.code : ChannelState → Nat
  | .off => 0 | .inrush => 1 | .on => 2 | .pullIn => 3 | .hold => 4 | .tripWait => 5 | .lockedOff => 6

/-- The composed kind: none 0, steady 1, flash 2. -/
def Demand.code : Demand → Nat
  | .none => 0 | .steady _ => 1 | .flash => 2

def Cadence.code : Cadence → Nat
  | .idle => 0 | .onPhase => 1 | .offPhase => 2

def Law.code : Law → Nat
  | .thermal => 0 | .magnetic => 1

def Policy.code : Policy → Nat
  | .hold => 0 | .rest => 1 | .full => 2

def DriverState.code : DriverState → Nat
  | .driving => 0 | .waiting => 1

/-- The band: none 0, LOW 1, VALID 2, HIGH 3. -/
def bandCode : Option Band → Nat
  | none => 0 | some .low => 1 | some .valid => 2 | some .high => 3

def SenderState.code : SenderState → Nat
  | .ok => 0 | .open => 1 | .shorted => 2

def FanState.code : FanState → Nat
  | .off => 0 | .ramp => 1 | .run => 2 | .stallWait => 3 | .stallLock => 4

def SupplyState.code : SupplyState → Nat
  | .normal => 0 | .lean => 1 | .shed => 2 | .crank => 3

def SystemClass.code : SystemClass → Nat
  | .volt12 => 0 | .volt6 => 1

def FailureCause.code : FailureCause → Nat
  | .invalidAtStart => 0 | .lowSupply => 1 | .verify => 2

/-! ### Reading request fields -/

/-- An index field: the number, where it is in range. -/
def index? (n : Nat) (k : Nat) : Option (Fin n) := if h : k < n then some ⟨k, h⟩ else none

/-- A function number (R9); above 12 there is none. -/
def function? (k : Nat) : Option Fn := (index? 13 k).map Fn.ofIdx

/-- A role number (R23); above 14 there is none. -/
def role? (k : Nat) : Option Role := (index? 15 k).map Role.ofIdx

/-- A truth value; any other number is refused (R174). -/
def truth? : Nat → Option Bool
  | 0 => some false
  | 1 => some true
  | _ => none

/-- A field that may be none, 0xFF (R174): `some none` is none, `none` is a number out of range. -/
def orNone? {α : Type} (read : Nat → Option α) (k : Nat) : Option (Option α) :=
  if k = 0xFF then some none else (read k).map some

def sourceMode? : Nat → Option SourceMode
  | 0 => some .switchOnly | 1 => some .linkOnly | 2 => some .shared | _ => none

def action? : Nat → Option Action
  | 0 => some .level | 1 => some .toggle | 2 => some .step | _ => none

def polarity? : Nat → Option Polarity
  | 0 => some .activeToEarth | 1 => some .activeToSupply | _ => none

def profile? : Nat → Option Profile
  | 0 => some .lamp | 1 => some .led | 2 => some .solenoid | _ => none

def law? : Nat → Option Law
  | 0 => some .thermal | 1 => some .magnetic | _ => none

def policy? : Nat → Option Policy
  | 0 => some .hold | 1 => some .rest | 2 => some .full | _ => none

def systemClass? : Nat → Option SystemClass
  | 0 => some .volt12 | 1 => some .volt6 | _ => none

/-- Bring a number into a range by clamping it to the nearer limit. -/
def clamp (low high n : Nat) : Nat := max low (min high n)

/-! ### Taken and refused requests -/

/-- A refused reply carries the status alone and changes nothing (R163, R175). -/
def refuse (status : Status) (s : State) : State × Reply := (s, u8 status.code)

/-- A taken request: the state it leaves, and status OK followed by its fields (R163). -/
def accept (s : State) (fields : List Byte) : State × Reply := (s, u8 Status.ok.code ++ fields)

/-! ### Readings -/

/-- A current in steps of 10 mA, a figure beyond the top of the range read as the top (R41, R110, R119).
Which neighbour a current between two steps reads as is a free value (log 5). -/
def currentReading (top milliamps : Nat) : Nat :=
  let down := milliamps / 10 * 10
  let read := if milliamps % 10 = 0 then milliamps
    else if Config.currentReadsUp milliamps then down + 10 else down
  min top read

/-- A measured figure in whole steps, to the nearest; which neighbour an exact half takes is given. -/
def nearestStep (step figure : Nat) (tieUp : Bool) : Nat :=
  let down := figure / step
  let rest := 2 * (figure % step)
  if rest < step then down else if rest = step then (if tieUp then down + 1 else down) else down + 1

/-- A voltage to the nearest 10 mV over 0 to 25,000 mV (R133). Which neighbour an exact half reads as is a
free value (log 6). -/
def voltageReading (millivolts : Nat) : Nat :=
  min 25000 (10 * nearestStep 10 millivolts (Config.voltageTieReadsUp millivolts))

/-- A sender's reading in tenths of an ohm, to the nearest, 0 to 5000; a broken wire and a pin held at a voltage both
read 5000 (R84). Which neighbour an exact half reads as is a free value (log 7). -/
def senderReading : SenderPin → Nat
  | .resistance milliohms => min 5000 (nearestStep 100 milliohms (Config.resistanceTieReadsUp milliohms))
  | .broken => 5000
  | .live => 5000

/-! ### Rounding -/

/-- `num / den` to the nearest whole number, an exact half rounded up (R72, R105, R106, R134). -/
def roundHalfUp (num den : Nat) : Nat := (2 * num + den) / (2 * den)

/-- `num / den` to the nearest whole number, an exact half away from zero (R98). -/
def roundHalfAway (num : Int) (den : Nat) : Int :=
  if num < 0 then -(roundHalfUp num.natAbs den : Int) else (roundHalfUp num.natAbs den : Int)

end Sys2Proof.Machine
end

