-- ==== Sys2Proof/Machine/Roles.lean ====
section
/-! DEFINITION. What is derived from the demand table and the supply "at once, whenever any quantity it is derived
from changes": the active sides (R66), the roles (R23 to R29), and each channel's own and composed demand
(R34 to R38, R46). They are views of the state, so they never lag it (log 27). -/

namespace Sys2Proof.Machine

/-! ### Sides -/

/-- A side's indicator function. -/
def indicatorFn : Side → Fn
  | .left => .indL
  | .right => .indR

/-- A side's indicator role. -/
def indicatorRole : Side → Role
  | .left => .indL
  | .right => .indR

/-- A side is active through its indicator while the indicator function and IGN are 1 (R66). -/
def State.throughIndicator (s : State) (side : Side) : Bool :=
  s.eff (indicatorFn side) == 1 && s.eff .ign == 1

/-- A side is active while HAZARD is 1 or it is active through its indicator (R66). -/
def State.sideActive (s : State) (side : Side) : Bool :=
  s.eff .hazard == 1 || s.throughIndicator side

/-- Some side is active. -/
def State.anySide (s : State) : Bool := s.sideActive .left || s.sideActive .right

/-! ### Supply views -/

/-- The shed level each supply state hands over (R29, R139). -/
def SupplyState.shedLevel : SupplyState → Nat
  | .normal => 4 | .lean => 3 | .shed => 2 | .crank => 1

/-- The charge condition: IGN is 1 and the DYN mean is below the BAT mean minus the charge margin; false
before the first means and while the BAT mean is smaller than the margin (R27, R146). -/
def State.chargeCondition (s : State) : Bool :=
  s.eff .ign == 1 &&
    match s.supply.batMean, s.supply.dynMean with
    | some bat, some dyn => decide (dyn + s.settings.supply.chargeMargin < bat)
    | _, _ => false

/-! ### Roles -/

/-- A role's active state: the table of R23 (R24 to R28). CHARGE_TELL follows the charge condition that the
supply watch keeps (R27, R146). -/
def State.roleActive (s : State) : Role → Bool
  | .side => s.eff .side == 1
  | .dip => s.eff .head == 1 && s.eff .beam == 0
  | .main => s.eff .head == 1 && s.eff .beam == 1
  | .indL => s.sideActive .left
  | .indR => s.sideActive .right
  | .stop => s.eff .stop == 1
  | .instr => s.eff .side == 1 && decide (0 < s.eff .instr)
  | .interior => s.eff .interior == 1
  | .fog => s.eff .fog == 1 && s.eff .side == 1
  | .reverse => s.eff .reverse == 1 && s.eff .ign == 1
  | .chargeTell => s.supply.charge
  | .indTell => s.anySide
  | .mainTell => s.eff .head == 1 && s.eff .beam == 1
  | .armL => s.throughIndicator .left
  | .armR => s.throughIndicator .right

/-- The duty of a steady role: INSTR's own value, 1000 for every other (R23, R25). -/
def State.roleDuty (s : State) (r : Role) : Nat :=
  if r = .instr then s.eff .instr else 1000

/-- A role is shed while its class is at or above the shed level (R29). -/
def State.roleShed (s : State) (r : Role) : Bool :=
  decide (s.supply.state.shedLevel ≤ s.shedClass r)

/-! ### Own demand -/

/-- An enabled entry covers every channel from its first to its last (R31). -/
def MapEntry.covers (e : MapEntry) (c : Fin 16) : Bool :=
  e.enabled && decide (e.first ≤ c) && decide (c ≤ e.last)

/-- The entry is gathered by the channel: it covers it and its role is active and not shed (R34). -/
def State.gathers (s : State) (c : Fin 16) (e : MapEntry) : Bool :=
  e.covers c && s.roleActive e.role && !s.roleShed e.role

/-- The gathered entries of a channel (R34). -/
def State.gathered (s : State) (c : Fin 16) : List MapEntry :=
  s.settings.map.toList.filter (s.gathers c)

/-- The demand one entry's role makes: flash or steady (R23, R34). -/
def State.roleDemand (s : State) (r : Role) : Demand :=
  if r.isFlashing then .flash else .steady (s.roleDuty r)

/-- Demands merge by one precedence: flash, else steady at the largest duty, else none (R34, R37). -/
def Demand.merge : Demand → Demand → Demand
  | .flash, _ => .flash
  | _, .flash => .flash
  | .steady a, .steady b => .steady (max a b)
  | .steady a, .none => .steady a
  | .none, d => d

/-- A channel's own demand, from its gathered entries (R34). -/
def State.ownDemand (s : State) (c : Fin 16) : Demand :=
  ((s.gathered c).map fun e => s.roleDemand e.role).foldl .merge .none

/-! ### Carried and composed demand -/

/-- The channel is OPEN-flagged or in LOCKED_OFF, and not in TRIP_WAIT (R36). A channel that CLEAR_CHANNEL takes out of
LOCKED_OFF and that is OPEN-flagged goes on carrying on account of its flag, although R62 says that its carrying stops
at once (DESIGN CHOICE, unsafe, log 36). -/
def Channel.hasFailed (x : Channel) : Bool :=
  (x.openFlag || x.state == .lockedOff) && !(x.state == .tripWait)

/-- Channel `x` carries its own demand to channel `c`: the four conditions of R36. -/
def State.carriesTo (s : State) (x c : Fin 16) : Bool :=
  (s.channelConfig x).substitute == some c && (s.channel x).hasFailed && !(s.ownDemand x == .none)

/-- A channel's composed demand: its own, merged with what is carried to it (R37). -/
def State.composedDemand (s : State) (c : Fin 16) : Demand :=
  (((List.finRange 16).filter fun x => s.carriesTo x c).map s.ownDemand).foldl .merge (s.ownDemand c)

/-- Receiving carried demand (R38). -/
def State.receiving (s : State) (c : Fin 16) : Bool :=
  (List.finRange 16).any fun x => s.carriesTo x c

/-- Carrying to its substitute (R38). -/
def State.carrying (s : State) (x : Fin 16) : Bool :=
  match (s.channelConfig x).substitute with
  | some c => s.carriesTo x c
  | none => false

/-- The channel is called to conduct: a steady composed demand, or flash in ON_PHASE (R46). -/
def State.called (s : State) (c : Fin 16) : Bool :=
  match s.composedDemand c with
  | .none => false
  | .steady _ => true
  | .flash => s.flasher.cadence == .onPhase

/-- The drive duty of a called channel (R46). -/
def State.driveDuty (s : State) (c : Fin 16) : Nat :=
  match s.composedDemand c with
  | .none => 0
  | .steady d => d
  | .flash => 1000

/-- The conducting states (R45). -/
def ChannelState.conducting : ChannelState → Bool
  | .inrush | .on | .pullIn | .hold => true
  | .off | .tripWait | .lockedOff => false

/-- The duty the channel is conducting at now (R45, R63). -/
def State.dutyNow (s : State) (c : Fin 16) : Nat :=
  match (s.channel c).state with
  | .inrush | .on => s.driveDuty c
  | .pullIn => 1000
  | .hold => (s.channelConfig c).holdDuty
  | .off | .tripWait | .lockedOff => 0

end Sys2Proof.Machine
end

