-- ==== Sys2Proof/Machine/Channels.lean ====
section
/-! DEFINITION. What a power channel does with being called, with a current sample and with its timers
(R45 to R62). -/

namespace Sys2Proof.Machine

/-- A channel that stops conducting: its activation ends, the runs and the good-run timer are held at
zero, and it takes the state given (R52, R57). The abandoned activation timer and the wait timer outside TRIP_WAIT stand
at 0 (DESIGN CHOICE, unsafe, log 40). -/
def Channel.stopIn (x : Channel) (state : ChannelState) : Channel :=
  { x with state := state, activation := 0, lowRun := none, highRun := none, goodRun := 0, wait := 0 }

/-- An activation begins: LAMP and LED enter INRUSH, SOLENOID enters PULL_IN (R47). -/
def Channel.activate (x : Channel) (profile : Profile) : Channel :=
  x.stopIn (if profile = .solenoid then .pullIn else .inrush)

/-- A channel follows its call: OFF and called begins an activation (R47), conducting and not called goes to
OFF (R52), TRIP_WAIT and LOCKED_OFF stay (R58, R60). -/
def Channel.follow (x : Channel) (profile : Profile) (called : Bool) : Channel :=
  if x.state = .off then (if called then x.activate profile else x)
  else if x.state.conducting then (if called then x else x.stopIn .off)
  else x

/-- Every channel follows its call (R35, R46). -/
def State.channelsFollow (s : State) : State :=
  { s with channels := vecOfFn fun c =>
      (s.channel c).follow (s.channelConfig c).profile (s.called c) }

/-- The steady part of an activation begins: ON or HOLD, with the good-run timer and the runs from zero (R49, R51). -/
def Channel.settleIn (x : Channel) (state : ChannelState) (window : Nat) : Channel :=
  { x with state := state, activation := max x.activation window, lowRun := none, highRun := none, goodRun := 0 }

/-- The top of a channel's measuring range (R41). -/
def channelTop (c : Fin 16) : Nat := if isHeavy c then 40000 else 10000

/-- The trip limit in force (R45, R57). -/
def ChannelConfig.limitIn (cfg : ChannelConfig) (state : ChannelState) : Option Nat :=
  match state with
  | .inrush | .pullIn => some cfg.inrushLimit
  | .on | .hold => some cfg.runLimit
  | .off | .tripWait | .lockedOff => none

/-- A reading is a trip: above the limit in force, or at the top of the range, in a conducting state (R41, R57). -/
def isTrip (cfg : ChannelConfig) (state : ChannelState) (top reading : Nat) : Bool :=
  match cfg.limitIn state with
  | some limit => decide (limit < reading) || decide (top ≤ reading)
  | none => false

/-- The open test runs in ON and HOLD (R45, R53). -/
def ChannelState.tested : ChannelState → Bool
  | .on | .hold => true
  | .off | .inrush | .pullIn | .tripWait | .lockedOff => false

/-- A run that goes on keeps its time; one that begins starts at zero. -/
def continueRun (run : Option Nat) : Option Nat := some (run.getD 0)

/-- A run that goes on has reached a figure: it stands there, or beyond it. -/
def reachRun (figure : Nat) (run : Option Nat) : Option Nat := run.map (max figure)

/-- The open test's runs after a sample (R53). -/
def Channel.runsAfter (x : Channel) (threshold reading : Nat) : Channel :=
  if reading < threshold then { x with lowRun := continueRun x.lowRun, highRun := none }
  else { x with lowRun := none, highRun := continueRun x.highRun }

/-- The open-test runs held at zero (R56). -/
def Channel.runsHeld (x : Channel) : Channel := { x with lowRun := none, highRun := none }

/-- A trip: the channel stops, the count rises, LAMP_SHORT is set, and the channel waits, or locks off with
CHANNEL_LOCKED at the third (R57, R59). -/
def State.trip (s : State) (c : Fin 16) : State :=
  let x := s.channel c
  let count := x.tripCount + 1
  if count < 3 then
    (s.setChannel c { x.stopIn .tripWait with tripCount := count }).raise .lampShort c.val
  else
    ((s.setChannel c { x.stopIn .lockedOff with tripCount := 3 }).raise .lampShort c.val).raise
      .channelLocked c.val

end Sys2Proof.Machine
end

