-- ==== Sys2Proof/Machine/Flasher.lean ====
section
/-! DEFINITION. The cadence and the run-on timers (R67 to R76). -/

namespace Sys2Proof.Machine

/-- The half-period in ms: 30,000 over the rate, or over twice the rate when doubled, an exact half rounded
up (R72). -/
def halfPeriod (rate : Nat) (doubled : Bool) : Nat :=
  roundHalfUp 30000 (if doubled then 2 * rate else rate)

/-- A channel under a side's indicator entries is OPEN-flagged or in LOCKED_OFF (R73). -/
def State.sideHasFailedLamp (s : State) (side : Side) : Bool :=
  (List.finRange 16).any fun c =>
    ((s.channel c).openFlag || (s.channel c).state == .lockedOff) &&
      s.settings.map.toList.any fun e => e.role == indicatorRole side && e.covers c

/-- The doubling judgement (R73). -/
def State.judgesDoubled (s : State) : Bool :=
  (s.sideActive .left && s.sideHasFailedLamp .left) ||
    (s.sideActive .right && s.sideHasFailedLamp .right)

/-- A phase begins: the timer starts from zero, the length and the doubled field are fixed (R68, R69). -/
def State.beginPhase (s : State) (cadence : Cadence) : State :=
  let doubled := s.judgesDoubled
  { s with flasher := { s.flasher with
      cadence := cadence, phaseTimer := 0,
      phaseLength := halfPeriod s.settings.flashRate doubled, doubled := doubled } }

/-- The cadence returns to IDLE (R70). -/
def Flasher.stop (f : Flasher) : Flasher :=
  { f with cadence := .idle, phaseTimer := 0, phaseLength := 0, doubled := false }

/-- A run-on timer follows its condition: it keeps its time or starts from zero while the condition holds,
and is stopped at zero otherwise (R76). -/
def followTimer (condition : Bool) (timer : Option Nat) : Option Nat :=
  if condition then some (timer.getD 0) else none

/-- The condition on which a side's run-on timer runs (R76). -/
def State.runOnRuns (s : State) (side : Side) : Bool :=
  s.throughIndicator side && !(s.settings.runOnLimit == 0)

/-- The run-on timers follow their conditions (R76, R79). -/
def State.runOnFollow (s : State) : State :=
  { s with flasher := { s.flasher with
      leftRunOn := followTimer (s.runOnRuns .left) s.flasher.leftRunOn
      rightRunOn := followTimer (s.runOnRuns .right) s.flasher.rightRunOn } }

/-- The cadence follows the active sides: it leaves IDLE when some side becomes active (R68) and returns to it
when none is left (R70); a change that leaves a side active does not restart it (R71). -/
def State.cadenceFollow (s : State) : State :=
  if s.anySide then (if s.flasher.cadence = .idle then s.beginPhase .onPhase else s)
  else { s with flasher := s.flasher.stop }

/-- The flasher follows the active sides and the run-on limit (R66). -/
def State.flasherFollow (s : State) : State := s.cadenceFollow.runOnFollow

/-- The phase after a boundary (R69). -/
def Cadence.flip : Cadence → Cadence
  | .idle => .idle
  | .onPhase => .offPhase
  | .offPhase => .onPhase

/-- A side's run-on timer. -/
def State.runOn (s : State) : Side → Option Nat
  | .left => s.flasher.leftRunOn
  | .right => s.flasher.rightRunOn

end Sys2Proof.Machine
end

