-- ==== Sys2Proof/Machine/Fan.lean ====
section
/-! DEFINITION. The fan's steps, cap, target duty and moves (R122 to R130). -/

namespace Sys2Proof.Machine

/-- A step's duty; step 0 has none (R121). -/
def FanConfig.stepDuty (cfg : FanConfig) : Nat → Nat
  | 1 => cfg.duty1
  | 2 => cfg.duty2
  | 3 => cfg.duty3
  | _ => 0

/-- The cap of the present supply state (R123, R139). -/
def State.fanCap (s : State) : Nat :=
  match s.supply.state with
  | .normal => 1000
  | .lean => s.settings.fan.stepDuty 1
  | .shed | .crank => 0

/-- The target duty: the step duty of the target step or the cap, whichever is smaller (R123). -/
def State.fanTarget (s : State) : Nat := min (s.settings.fan.stepDuty s.fan.targetStep) s.fanCap

/-- The fan's conducting states (R120). -/
def FanState.conducting : FanState → Bool
  | .ramp | .run => true
  | .off | .stallWait | .stallLock => false

/-- The ramp timer stands at zero outside RAMP (R127, log 29). -/
def Fan.rampStopped (f : Fan) : Fan := { f with rampTimer := 0, rampSteps := 0 }

/-- One ramp step: duty now rises by the ramp step, no higher than the target; once it is there the fan is in RUN and the
ramp timer stops (R124). -/
def Fan.rampStep (f : Fan) (step target : Nat) : Fan :=
  if target ≤ f.dutyNow + step then { f.rampStopped with dutyNow := target, state := .run }
  else { f with dutyNow := f.dutyNow + step, state := .ramp }

/-- The fan enters RAMP: the ramp timer starts from zero and the first ramp step is taken at once (R124). -/
def Fan.enterRamp (f : Fan) (step target : Nat) : Fan := f.rampStopped.rampStep step target

/-- The time between two ramp steps (R124), in ms. -/
def rampTime : Nat := 100

/-- The ramp timer stands at its next multiple of 100 ms, or beyond it, and its step is counted (R124, log 29). -/
def Fan.rampReached (f : Fan) : Fan :=
  { f with rampTimer := max f.rampTimer (rampTime * (f.rampSteps + 1)), rampSteps := f.rampSteps + 1 }

/-- The fan stops conducting: duty now 0, the ramp timer and the runs held at zero (R124, R125, R127, R129). -/
def Fan.stopIn (f : Fan) (state : FanState) : Fan :=
  { f with state := state, dutyNow := 0, rampTimer := 0, rampSteps := 0, stallRun := none, waitTimer := 0,
           lowRun := none, highRun := none }

/-- The fan follows its target duty: the table of R124. -/
def Fan.follow (f : Fan) (step target : Nat) : Fan :=
  match f.state with
  | .off => if 0 < target then { f with dutyNow := 0 }.enterRamp step target else f
  | .ramp =>
    if target = 0 then f.stopIn .off
    else if target ≤ f.dutyNow then { f.rampStopped with dutyNow := target, state := .run }
    else f
  | .run =>
    if target = 0 then f.stopIn .off
    else if f.dutyNow < target then f.enterRamp step target
    else { f with dutyNow := target }
  | .stallWait | .stallLock => f

/-- The fan follows the target duty of the moment (R123, R124). -/
def State.fanFollow (s : State) : State :=
  { s with fan := s.fan.follow s.settings.fan.rampStep s.fanTarget }

/-- The step the fan takes when the settle timer ends: FAN's value, or 0 with the ignition off on an
ignition-fed fan (R122). -/
def State.chosenStep (s : State) : Nat :=
  if s.settings.fan.ignitionFed && !(s.eff .ign == 1) then 0 else s.eff .fan

/-- The settle timer ends (R122). -/
def State.endSettle (s : State) : State :=
  { s with fan := { s.fan with settle := none, targetStep := s.chosenStep } }

/-- The settle timer starts or restarts from zero; a window of 0 ends it at the same moment (R122). -/
def State.startSettle (s : State) : State :=
  if s.settings.fan.settleWindow = 0 then s.endSettle
  else { s with fan := { s.fan with settle := some 0 } }

/-- The target step becomes 0 at once and a running settle timer stops (R122). -/
def State.dropStep (s : State) : State :=
  { s with fan := { s.fan with settle := none, targetStep := 0 } }

/-- FAN changes to 0: the target step drops (R122), the stall count returns to 0 and a STALL_LOCK is
released to OFF (R128). -/
def State.fanToZero (s : State) : State :=
  let t := s.dropStep
  { t with fan := { t.fan with
      stallCount := 0, state := if t.fan.state = .stallLock then .off else t.fan.state } }

/-- What a change of IGN does to the fan (R122). -/
def State.fanOnIgnition (s : State) (before : Nat) : State :=
  if s.eff .ign = before || !s.settings.fan.ignitionFed then s
  else if s.eff .ign = 1 then (if s.eff .fan = 0 then s else s.startSettle)
  else s.dropStep

/-- What a change of FAN does to the fan (R122, R128). -/
def State.fanOnFunction (s : State) (before : Nat) : State :=
  if s.eff .fan = before then s
  else if s.eff .fan = 0 then s.fanToZero
  else s.startSettle

/-- The fan takes the changes of IGN and FAN between two states, IGN first (R122, log 30). -/
def State.fanOnDemand (s before : State) : State :=
  (s.fanOnIgnition (before.eff .ign)).fanOnFunction (before.eff .fan)

/-- A stall (detail 0) or a trip (detail 1): the fan stops, the count rises, FAN_STALL is set, and the fan
waits, or locks with FAN_LOCKED at the third (R127). -/
def State.fanFault (s : State) (detail : Nat) : State :=
  let count := s.fan.stallCount + 1
  if count < 3 then
    ({ s with fan := { s.fan.stopIn .stallWait with stallCount := count } } : State).raise .fanStall detail
  else
    (({ s with fan := { s.fan.stopIn .stallLock with stallCount := 3 } } : State).raise
      .fanStall detail).raise .fanLocked 0

/-- The stall run after a sample (R125); it is held at zero in CRANK (R130). -/
def Fan.stallAfter (f : Fan) (limit reading : Nat) (crank : Bool) : Fan :=
  { f with stallRun := if limit < reading && !crank then continueRun f.stallRun else none }

/-- The open test's runs after a sample (R129). -/
def Fan.openAfter (f : Fan) (reading : Nat) : Fan :=
  if reading < 200 then
    { f with lowRun := if 300 ≤ f.dutyNow then continueRun f.lowRun else none, highRun := none }
  else { f with lowRun := none, highRun := continueRun f.highRun }

/-- The top of the fan's measuring range (R119). -/
def fanTop : Nat := 30000

/-- A current sample of the fan: kept, and judged while the fan conducts by the trip test (R126), the stall
test (R125) and the open test (R129). -/
def State.sampleFan (s : State) (milliamps : Nat) : State :=
  let reading := currentReading fanTop milliamps
  let f := { s.fan with current := reading }
  let kept : State := { s with fan := f }
  if !f.state.conducting then kept
  else if 25000 < reading then kept.fanFault 1
  else { s with fan := (f.stallAfter s.settings.fan.stallLimit reading
      (s.supply.state == .crank)).openAfter reading }

end Sys2Proof.Machine
end

