-- ==== Sys2Proof/Machine/Supply.lean ====
section
/-! DEFINITION. The supply watch: means, total load, timers, states, the charge condition (R133 to R147). -/

namespace Sys2Proof.Machine

/-! ### Means and load -/

/-- The last eight samples with a new one, newest first (R134). -/
def pushSample (sample : Nat) (samples : List Nat) : List Nat := (sample :: samples).take 8

/-- The mean of the samples taken so far, to the nearest millivolt, an exact half up (R134). -/
def meanOf (samples : List Nat) : Nat := roundHalfUp samples.sum samples.length

/-- A driver's current: its latest on-pulse sample, 0 while it is WAITING or the duty is 0 (R110). -/
def Gauge.driverCurrent (g : Gauge) : Nat :=
  if g.driver = .waiting ∨ g.duty = 0 then 0 else g.driverSample

/-- The sum of the latest currents of the channels, the fan and the drivers (R136). -/
def State.loadNow (s : State) : Nat :=
  (s.channels.toList.map Channel.current).sum + s.fan.current
    + (s.gauges.toList.map Gauge.driverCurrent).sum

/-- MIN_BAT takes the first mean, then each mean below it (R147). -/
def lowerMark (mark : Option Nat) (mean : Nat) : Option Nat :=
  match mark with
  | none => some mean
  | some m => some (min m mean)

/-- The samples, means, total load and sticky marks of a slot (R133, R134, R136, R147). -/
def State.takeSamples (s : State) (bat dyn : Nat) : State :=
  let bats := pushSample (voltageReading bat) s.supply.batSamples
  let dyns := pushSample (voltageReading dyn) s.supply.dynSamples
  let mean := meanOf bats
  { s with supply := { s.supply with
      batSamples := bats, dynSamples := dyns, batMean := some mean, dynMean := some (meanOf dyns),
      totalLoad := s.loadNow,
      lowSeen := s.supply.lowSeen || decide (mean < s.settings.supply.lean),
      minBat := lowerMark s.supply.minBat mean } }

/-- The charge condition is judged; its change from false to true sets CHARGE_WARN (R146). -/
def State.chargeFollow (s : State) : State :=
  let now := s.chargeCondition
  let t := { s with supply := { s.supply with charge := now } }
  if now && !s.supply.charge then t.raise .chargeWarn 0 else t

/-! ### Timers -/

/-- A timer's elapsed time in ms (R135). -/
def SupplyTimer.elapsed (t : SupplyTimer) : Nat := t.seconds * 1000 + t.slots * 10

/-- A timer at a slot: it starts at zero, gains a slot, or returns to zero (R135). -/
def SupplyTimer.run (t : SupplyTimer) (condition : Bool) : SupplyTimer :=
  if !condition then .zero
  else if !t.started then { started := true, slots := 0, seconds := 0 }
  else if t.slots + 1 = 100 then { t with slots := 0, seconds := t.seconds + 1 }
  else { t with slots := t.slots + 1 }

/-- A timer that has reached its delay (R135). -/
def SupplyTimer.expired (t : SupplyTimer) (delay : Nat) : Bool :=
  t.started && decide (delay ≤ t.elapsed)

/-- The delays of the table of R135, in ms. -/
def leanDelay : Nat := 10000
def budgetDelay : Nat := 30000
def recoveryDelay : Nat := 10000
def shedDelay : Nat := 2000
def unshedDelay : Nat := 10000
def crankExitDelay : Nat := 500
def crankLimitDelay : Nat := 10000

/-- The total load is above a budget that is in force: budget not 0 and IGN 1 (R140). -/
def State.overBudget (s : State) : Bool :=
  !(s.settings.supply.budget == 0) && s.eff .ign == 1
    && decide (s.settings.supply.budget < s.supply.totalLoad)

/-- The seven timers after a slot whose BAT mean is given: each runs in its own states on its own condition, and
is held at zero in the others (the table of R135). -/
def State.timersAfter (s : State) (bat : Nat) : SupplyTimers :=
  let cfg := s.settings.supply
  let t := s.supply.timers
  match s.supply.state with
  | .normal => { SupplyTimers.zero with
      lean := t.lean.run (decide (bat < cfg.lean) && s.supply.charge)
      budget := t.budget.run s.overBudget
      shed := t.shed.run (decide (bat < cfg.shed)) }
  | .lean => { SupplyTimers.zero with
      recovery := t.recovery.run (decide (cfg.lean + cfg.hysteresis < bat) && !s.overBudget)
      shed := t.shed.run (decide (bat < cfg.shed)) }
  | .shed => { SupplyTimers.zero with
      unshed := t.unshed.run (decide (cfg.shed + cfg.hysteresis < bat)) }
  | .crank => { SupplyTimers.zero with
      crankExit := t.crankExit.run (decide (cfg.crankExit < bat))
      crankLimit := t.crankLimit.run true }

/-- The timers of the present state run (step 2 of R144). -/
def State.runTimers (s : State) (bat : Nat) : State :=
  { s with supply := { s.supply with timers := s.timersAfter bat } }

/-! ### Transitions -/

/-- A move of the supply state: SUPPLY_STATE is set (R145), every timer returns to zero but the shed timer
between NORMAL and LEAN (R144), CRANK entry is armed as given (R142), and a move into or out of
CRANK leaves the open-test runs and the stall run at zero (R56, R130). -/
def State.moveSupply (s : State) (next : SupplyState) (armed : Bool) : State :=
  let keepShed := (s.supply.state == .normal && next == .lean) || (s.supply.state == .lean && next == .normal)
  let crank := s.supply.state == .crank || next == .crank
  let moved : State :=
    { s with
      supply := { s.supply with
        state := next, armed := armed,
        timers := { SupplyTimers.zero with
          shed := if keepShed then s.supply.timers.shed else .zero } }
      channels := vecOfFn fun c => if crank then (s.channel c).runsHeld else s.channel c
      fan := if crank then { s.fan with stallRun := none } else s.fan }
  moved.raise .supplyState next.code

/-- CRANK entry is re-armed at a slot in SHED whose mean is at or above crank enter (R142). -/
def State.rearm (s : State) (bat : Nat) : State :=
  { s with supply := { s.supply with
      armed := s.supply.armed ||
        (s.supply.state == .shed && decide (s.settings.supply.crankEnter ≤ bat)) } }

/-- At most one transition, the first that applies in the present state's row (step 3 of R144). -/
def State.takeTransition (s : State) (bat : Nat) : State :=
  let t := s.supply.timers
  let cranks := decide (bat < s.settings.supply.crankEnter)
  match s.supply.state with
  | .normal =>
    if cranks then s.moveSupply .crank true
    else if t.shed.expired shedDelay then s.moveSupply .shed true
    else if t.lean.expired leanDelay || t.budget.expired budgetDelay then s.moveSupply .lean true
    else s
  | .lean =>
    if cranks then s.moveSupply .crank true
    else if t.shed.expired shedDelay then s.moveSupply .shed true
    else if t.recovery.expired recoveryDelay then s.moveSupply .normal true
    else s
  | .shed =>
    if cranks && s.supply.armed then s.moveSupply .crank true
    else if t.unshed.expired unshedDelay then s.moveSupply .lean true
    else s.rearm bat
  | .crank =>
    if t.crankExit.expired crankExitDelay then s.moveSupply .normal true
    else if t.crankLimit.expired crankLimitDelay then s.moveSupply .shed false
    else s

/-- One sample slot: means and load, the charge condition, the timers, at most one transition (R144). -/
def State.judgeSlot (s : State) (bat dyn : Nat) : State :=
  let sampled := (s.takeSamples bat dyn).chargeFollow
  let mean := sampled.supply.batMean.getD 0
  (sampled.runTimers mean).takeTransition mean

/-- The store supply condition: not CRANK, and the BAT mean at or above the store minimum (R139). -/
def State.storeCondition (s : State) : Bool :=
  !(s.supply.state == .crank) &&
    match s.supply.batMean with
    | some bat => decide (s.settings.supply.storeMinimum ≤ bat)
    | none => false

end Sys2Proof.Machine
end

