-- ==== Sys2Proof/Machine/Store.lean ====
section
/-! DEFINITION. The store's programmings: how one begins, succeeds and fails (R151, R156). -/

namespace Sys2Proof.Machine

/-- The page an image is for: T0 to T7 as 0 to 7, S as 8 (R151). -/
def Image.page : Image → Fin 9
  | .table p _ => p.castLE (by decide)
  | .settings _ => 8

/-- The programming time of a page in ms (R151). -/
def Image.programmingTime : Image → Nat
  | .table _ _ => 25
  | .settings _ => 150

/-- The valid mark of an image's page is cleared (R151). -/
def Store.clearMark (st : Store) : Image → Store
  | .table p _ => { st with tablePages := st.tablePages.set p none }
  | .settings _ => { st with settingsPage := none }

/-- A page written whole, with its valid mark (R151, R156). -/
def Store.writePage (st : Store) : Image → Store
  | .table p points => { st with tablePages := st.tablePages.set p (some points) }
  | .settings image => { st with settingsPage := some image }

/-- A programming begins: the mark is cleared and the image is in the programming record (R151). -/
def State.beginProgramming (s : State) (image : Image) : State :=
  { s with store := { s.store.clearMark image with programming := some ⟨image, 0⟩ } }

/-- A programming fails: the record is emptied, the failure record takes page and cause, STORE_FAIL is set;
the page stays invalid (R156). -/
def State.failProgramming (s : State) (image : Image) (cause : FailureCause) : State :=
  ({ s with store := { s.store with
      programming := none, failure := some ⟨image.page, cause⟩ } } : State).raise .storeFail image.page.val

/-- A programming succeeds: the page is valid, a table becomes active, STORE_DONE is set (R156). -/
def State.finishProgramming (s : State) (image : Image) : State :=
  ({ s with
      store := { s.store.writePage image with programming := none }
      tables := match image with
        | .table p points => s.tables.set p points
        | .settings _ => s.tables } : State).raise .storeDone image.page.val

/-- A programming in flight is abandoned at once when the store supply condition is false (R156). -/
def State.storeFollow (s : State) : State :=
  match s.store.programming with
  | some p => if s.storeCondition then s else s.failProgramming p.image .lowSupply
  | none => s

end Sys2Proof.Machine
end

