-- ==== Sys2Proof/Machine/React.lean ====
section
/-! DEFINITION. The reaction of the blocks to a change: "every change reaches the blocks that read it at once"
(R9, R29, R35, R46, R66, R123, R139, R146). Each block's part is a function of the state alone, so the
whole reaction leaves a settled state as it is. -/

namespace Sys2Proof.Machine

/-- The blocks take up whatever has changed: the flasher its sides, the supply watch the charge condition,
the store its supply condition, the fan its target duty, the channels their calls (log 18). -/
def State.react (s : State) : State :=
  s.flasherFollow.chargeFollow.storeFollow.fanFollow.channelsFollow

/-- The blocks take up a change of effective values from an earlier state (R9, R122). -/
def State.reactFrom (s before : State) : State := (s.fanOnDemand before).react

end Sys2Proof.Machine
end

