-- ==== Sys2Proof/Machine/Demand.lean ====
section
/-! DEFINITION. The demand table: switch value changes, writes from the link, the cancel latch, the
reservation, debouncing, and what LIMP entry and exit do (R2 to R20). -/

namespace Sys2Proof.Machine

/-! ### Writing a function's record -/

/-- A write of a function's effective value, even one that leaves it as it was, clears a reservation on it (R16). -/
def State.clearReservation (s : State) (f : Fn) : State :=
  { s with reservation := if s.reservation = some f then none else s.reservation }

/-- A function's record is put with its effective value written: a reservation on it clears (R16) and the blocks
take the change up (R9). -/
def State.writeFn (s : State) (f : Fn) (r : FnRecord) : State :=
  ((s.clearReservation f).setFn f r).reactFrom s

/-- DEMAND_CHANGE is set when the effective value of the function has changed (R15). -/
def State.raiseIfChanged (s before : State) (f : Fn) : State :=
  if s.eff f = before.eff f then s else s.raise .demandChange f.idx.val

/-- The mode a function behaves in: SWITCH_ONLY in LIMP, its own otherwise (R10, R20). -/
def State.behaves (s : State) (f : Fn) : SourceMode :=
  if s.link.limp then .switchOnly else s.mode f

/-- A function's record after a switch value change, and whether its effective value has been written (R10):
the latch clears first (R14). -/
def switchRecord (f : Fn) (mode : SourceMode) (r : FnRecord) (value : Nat) : FnRecord × Bool :=
  let free := { r with switch := value, latch := false }
  match mode with
  | .switchOnly => ({ free with effective := value }, true)
  | .shared => ({ free with link := none, effective := value }, true)
  | .linkOnly =>
    if r.latch then ({ free with effective := modeEvaluation f .linkOnly free }, true)
    else (free, false)

/-- The switch value of a function is found to be a value. Where it is the value it already had, nothing
follows (R5, R6); otherwise it is a switch value change (R10). -/
def State.switchTo (s : State) (f : Fn) (value : Nat) : State :=
  if value = (s.fn f).switch then s
  else match switchRecord f (s.behaves f) (s.fn f) value with
    | (r, true) => s.writeFn f r
    | (r, false) => s.setFn f r

/-- The same on a debounced edge or a settlement: a changed effective value sets DEMAND_CHANGE (R15). -/
def State.switchByEdge (s : State) (f : Fn) (value : Nat) : State :=
  (s.switchTo f value).raiseIfChanged s f

/-! ### LEVEL evaluation and edges -/

/-- The input contributes to a LEVEL evaluation of the function: bound to it with action LEVEL, and ACTIVE (R5). -/
def State.contributes (s : State) (f : Fn) (i : Fin 12) : Bool :=
  (s.binding i).function == some f && (s.binding i).action == .level
    && (s.input i).debounced == .active

/-- The LEVEL evaluation of a function over the inputs that pass a test: the largest level value of those that
contribute, or 0 (R5). -/
def State.levelValue (s : State) (f : Fn) (among : Fin 12 → Bool) : Nat :=
  (((List.finRange 12).filter fun i => among i && s.contributes f i).map
    fun i => (s.binding i).level).foldl max 0

/-- The LEVEL evaluation of a function (R5). -/
def State.levelEvaluation (s : State) (f : Fn) : Nat := s.levelValue f fun _ => true

/-- What an activation edge makes of the switch value under TOGGLE and STEP (R6). -/
def pressedValue (f : Fn) (b : Binding) (switch : Nat) : Nat :=
  match b.action with
  | .toggle => if switch = 0 then b.level else 0
  | .step => (switch + 1) % (f.maxValue + 1)
  | .level => switch

/-- An input's debounced state takes a value: an edge or a settlement, with the binding's action (R3, R5, R6).
LEVEL acts on every one; TOGGLE and STEP act on an activation edge from INACTIVE alone. -/
def State.debounceTo (s : State) (i : Fin 12) (value : Debounced) : State :=
  let was := (s.input i).debounced
  if was = value then s
  else
    let t := s.setInput i { s.input i with debounced := value }
    match (s.binding i).function with
    | none => t
    | some f =>
      if (s.binding i).action = .level then t.switchByEdge f (t.levelEvaluation f)
      else if was = .inactive ∧ value = .active then
        t.switchByEdge f (pressedValue f (s.binding i) (t.fn f).switch)
      else t

/-- The debounced state a raw level settles to (R2). -/
def settledState (raw : Bool) : Debounced := if raw then .active else .inactive

/-- The raw level has been held for the debounce time (R2). -/
def State.settleInput (s : State) (i : Fin 12) : State := s.debounceTo i (settledState (s.raw i))

/-- An input whose count has passed its debounce time settles at once (R2). It does so as every debounced edge does: TOGGLE
and STEP act on it and DEMAND_CHANGE is set (DESIGN CHOICE, unsafe, log 35). -/
def State.settleIfDue (s : State) (i : Fin 12) : State :=
  if (s.binding i).debounce ≤ (s.input i).count then s.settleInput i else s

/-- A pin moves: the count restarts from zero when the raw level changes (R1, R2). -/
def State.moveContact (s : State) (i : Fin 12) (contact : Contact) : State :=
  let x := s.input i
  let changed := rawLevel (s.binding i).polarity contact != s.raw i
  s.setInput i { x with contact := contact, count := if changed then 0 else x.count }

/-! ### Writes from the link -/

/-- The record SET_DEMAND leaves (R11): the clamped value as link value and effective value, the latch clear. -/
def linkedRecord (f : Fn) (r : FnRecord) (value : Nat) : FnRecord :=
  { r with link := some (min value f.maxValue), effective := min value f.maxValue, latch := false }

/-- The record RELEASE_DEMAND leaves (R12): no link value, the latch clear, the mode evaluation in force. -/
def releasedRecord (f : Fn) (mode : SourceMode) (r : FnRecord) : FnRecord :=
  let free := { r with link := none, latch := false }
  { free with effective := modeEvaluation f mode free }

/-- The record SET_FUNCTION leaves under its new mode (R13). -/
def remodedRecord (f : Fn) (mode : SourceMode) (r : FnRecord) : FnRecord :=
  let kept := { r with link := if mode = SourceMode.switchOnly then none else r.link }
  { kept with effective := modeEvaluation f mode kept }

/-- The record the setting of the cancel latch leaves (R14). -/
def cancelledRecord (r : FnRecord) : FnRecord :=
  { r with latch := true, link := none, effective := 0 }

/-- A side's run-on timer expires: the latch of its indicator is set (R14), DEMAND_CHANGE if the effective value
was nonzero (R15), IND_TIMEOUT with the side (R77). -/
def State.cancelSide (s : State) (side : Side) : State :=
  let f := indicatorFn side
  ((s.writeFn f (cancelledRecord (s.fn f))).raiseIfChanged s f).raise .indTimeout
    (match side with | .left => 0 | .right => 1)

/-! ### LIMP -/

/-- A function's record on LIMP entry: no link value, evaluated as SWITCH_ONLY (R19). -/
def limpRecord (r : FnRecord) : FnRecord :=
  { r with link := none, effective := if r.latch then 0 else r.switch }

/-- A function's record on LIMP exit: no link value, evaluated under its own mode (R20). -/
def rejoinRecord (f : Fn) (mode : SourceMode) (r : FnRecord) : FnRecord :=
  let free := { r with link := none }
  { free with effective := modeEvaluation f mode free }

/-- LIMP entry: the flag, the timer, LINK_LOST; the demand table all at once, the staging buffer, the link
positions (R19, R113, R153, R167). The link timer, which stops, stands at 0 in LIMP (DESIGN CHOICE, unsafe, log 41). -/
def State.enterLimp (s : State) : State :=
  let t : State :=
    { s with
      functions := vecOfFn fun i => limpRecord s.functions[i]
      reservation := none
      store := { s.store with staging := none }
      gauges := vecOfFn fun g => { s.gauge g with linkPosition := 0 }
      link := { s.link with limp := true, timer := 0 } }
  ((t.raise .linkLost 0).raiseDemandChanges s).reactFrom s

/-- LIMP exit: the flag clears, the timer starts from zero, every effective value by its own mode (R20, R168). -/
def State.exitLimp (s : State) : State :=
  let t : State :=
    { s with
      functions := vecOfFn fun i => rejoinRecord (Fn.ofIdx i) s.settings.modes[i] s.functions[i]
      link := { s.link with limp := false, timer := 0 } }
  (t.raiseDemandChanges s).reactFrom s

end Sys2Proof.Machine
end

