-- ==== Sys2Proof/WellFormed.lean ====
section
/-! DEFINITION. Which commands can be written down on the wire: every payload field of a request fits the
width that R176 gives it (one byte unless a bracket says two). The other rows have no ill-formed operand:
their operands are typed by the unit they name. -/

namespace Sys2Proof

/-- The number fits a one-byte field. -/
def fitsByte (n : Nat) : Bool := n < 256

/-- The number fits a two-byte field. -/
def fitsPair (n : Nat) : Bool := n < 65536

/-- Every field of the command fits its width (R174, R176). -/
def Instr.wellFormed : Instr → Bool
  | .setEvent e en l => fitsByte e && fitsByte en && fitsByte l
  | .setAttnLevel t => fitsByte t
  | .setLinkTimeout t => fitsPair t
  | .readDemand f r => fitsByte f && fitsByte r
  | .setDemand f v => fitsByte f && fitsPair v
  | .setDemandIf f v => fitsByte f && fitsPair v
  | .releaseDemand f => fitsByte f
  | .setFunction f m => fitsByte f && fitsByte m
  | .setInput i f a l p d =>
    fitsByte i && fitsByte f && fitsByte a && fitsPair l && fitsByte p && fitsByte d
  | .readInputs i => fitsByte i
  | .setMap e r f l en => fitsByte e && fitsByte r && fitsByte f && fitsByte l && fitsByte en
  | .readMap e => fitsByte e
  | .setRole r c => fitsByte r && fitsByte c
  | .setChannel c p i pi h r il o s =>
    fitsByte c && fitsByte p && fitsPair i && fitsPair pi && fitsPair h && fitsPair r && fitsPair il
      && fitsPair o && fitsByte s
  | .readChannel c => fitsByte c
  | .clearChannel c => fitsByte c
  | .setFlasher r l => fitsByte r && fitsPair l
  | .setGauge g b l k p => fitsByte g && fitsByte b && fitsByte l && fitsPair k && fitsByte p
  | .readGauge g c => fitsByte g && fitsByte c
  | .setGaugePosition g p => fitsByte g && fitsPair p
  | .setSender n a b => fitsByte n && fitsPair a && fitsPair b
  | .readSender n => fitsByte n
  | .setFan d0 d1 d2 d3 r s l i =>
    fitsPair d0 && fitsPair d1 && fitsPair d2 && fitsPair d3 && fitsPair r && fitsPair s && fitsPair l
      && fitsByte i
  | .setSupply c l s ce cx h m st b =>
    fitsByte c && fitsPair l && fitsPair s && fitsPair ce && fitsPair cx && fitsPair h && fitsPair m
      && fitsPair st && fitsPair b
  | .readSupply c => fitsByte c
  | .tableOpen t i => fitsByte t && fitsByte i
  | .tablePoint x y => fitsPair x && fitsPair y
  | .tableCommit l => fitsByte l
  | .tableRead t i => fitsByte t && fitsByte i
  | .powerOnReset | .partRestart | .frameReceived _ | .frameBadLength _ | .frameGapTimeout
  | .replySent | .unknownKindRequest _ | .hello | .restart | .readEvents | .readFlasher | .readFan
  | .saveSettings | .readStore | .programmingComplete _ | .limpEntry | .switchRawChange _ _
  | .debounceExpiry _ | .runOnExpiry _ | .phaseBoundary | .inrushEnd _ | .pullInEnd _
  | .channelSample _ _ | .lampOpenDetect _ | .lampOpenClear _ | .goodRunExpiry _ | .tripWaitEnd _
  | .senderSample _ _ | .gaugeUpdate _ | .driverSample _ _ | .driverWaitEnd _ | .settleWindowEnd
  | .fanRampStep | .fanSample _ | .fanStall | .stallWaitEnd | .fanOpenDetect | .fanOpenClear
  | .sampleSlot _ _ | .leanTimerExpiry | .budgetTimerExpiry | .recoveryTimerExpiry
  | .shedTimerExpiry | .unshedTimerExpiry | .crankExitTimerExpiry | .crankLimitTimerExpiry
  | .powerLoss | .byteReceived _ => true

end Sys2Proof
end

