-- ==== Sys2Proof/Machine/Frames.lean ====
section
/-! DEFINITION. The frames of the wire: their bytes (R160), the request each spells (R174, R176), and the
frame each request command is sent in. -/

namespace Sys2Proof.Machine

/-! ### Bytes -/

/-- A byte list's sum, modulo 256. -/
def byteSum : List Byte → Byte
  | [] => 0
  | b :: rest => b + byteSum rest

/-- The length byte of a frame (R160). -/
def Frame.len (f : Frame) : Byte := BitVec.ofNat 8 f.payload.length

/-- The check byte: LEN, KIND, payload and CHK add up to a multiple of 256 (R160). -/
def Frame.check (f : Frame) : Byte := -(f.len + f.kind + byteSum f.payload)

/-- A frame's bytes on the wire, start byte first (R160). -/
def Frame.wire (f : Frame) : List Byte :=
  0xC5 :: f.len :: f.kind :: (f.payload ++ [f.check])

/-- The reply to a request's frame: KIND plus 0x80, modulo 256 (R163, R175). -/
def Frame.replyWith (f : Frame) (payload : Reply) : Frame := ⟨f.kind + 0x80, payload⟩

/-- What leaves the transmitter for an outgoing place: a FRAME_ERROR has KIND 0x7F and carries its status
alone (R161, R175); a place that is still awaited has nothing to send. -/
def Outgoing.frame? : Outgoing → Option Frame
  | .reply f => some f
  | .frameError status => some ⟨0x7F, u8 status.code⟩
  | .awaited => none

/-! ### From a frame to its request -/

/-- The request length of a known kind; none where no request has the kind (R174, R176). -/
def requestLength (kind : Byte) : Option Nat :=
  match kind.toNat with
  | 0x01 => some 0 | 0x02 => some 0 | 0x08 => some 0 | 0x09 => some 3 | 0x0A => some 1 | 0x0B => some 2
  | 0x10 => some 2 | 0x11 => some 3 | 0x12 => some 3 | 0x13 => some 1 | 0x14 => some 2 | 0x15 => some 7
  | 0x16 => some 1 | 0x20 => some 5 | 0x21 => some 1 | 0x22 => some 15 | 0x23 => some 1 | 0x24 => some 1
  | 0x25 => some 2 | 0x26 => some 3 | 0x27 => some 0 | 0x30 => some 6 | 0x31 => some 2 | 0x32 => some 3
  | 0x33 => some 5 | 0x34 => some 1 | 0x40 => some 15 | 0x41 => some 0 | 0x42 => some 17
  | 0x43 => some 1 | 0x50 => some 2 | 0x51 => some 4 | 0x52 => some 1 | 0x53 => some 2 | 0x54 => some 0
  | 0x55 => some 0
  | _ => none

/-- The request a kind and its payload bytes spell (R176). -/
def requestOf (kind : Byte) (payload : List Byte) : Option Instr :=
  match kind.toNat, payload with
  | 0x01, [] => some .hello
  | 0x02, [] => some .restart
  | 0x08, [] => some .readEvents
  | 0x09, [e, en, l] => some (.setEvent e.toNat en.toNat l.toNat)
  | 0x0A, [t] => some (.setAttnLevel t.toNat)
  | 0x0B, [t0, t1] => some (.setLinkTimeout (pair t0 t1))
  | 0x10, [f, r] => some (.readDemand f.toNat r.toNat)
  | 0x11, [f, v0, v1] => some (.setDemand f.toNat (pair v0 v1))
  | 0x12, [f, v0, v1] => some (.setDemandIf f.toNat (pair v0 v1))
  | 0x13, [f] => some (.releaseDemand f.toNat)
  | 0x14, [f, m] => some (.setFunction f.toNat m.toNat)
  | 0x15, [i, f, a, l0, l1, p, d] =>
    some (.setInput i.toNat f.toNat a.toNat (pair l0 l1) p.toNat d.toNat)
  | 0x16, [i] => some (.readInputs i.toNat)
  | 0x20, [e, r, f, l, en] => some (.setMap e.toNat r.toNat f.toNat l.toNat en.toNat)
  | 0x21, [e] => some (.readMap e.toNat)
  | 0x22, [c, p, i0, i1, q0, q1, h0, h1, r0, r1, m0, m1, o0, o1, s] =>
    some (.setChannel c.toNat p.toNat (pair i0 i1) (pair q0 q1) (pair h0 h1) (pair r0 r1) (pair m0 m1)
      (pair o0 o1) s.toNat)
  | 0x23, [c] => some (.readChannel c.toNat)
  | 0x24, [c] => some (.clearChannel c.toNat)
  | 0x25, [r, c] => some (.setRole r.toNat c.toNat)
  | 0x26, [r, l0, l1] => some (.setFlasher r.toNat (pair l0 l1))
  | 0x27, [] => some .readFlasher
  | 0x30, [g, b, l, k0, k1, p] => some (.setGauge g.toNat b.toNat l.toNat (pair k0 k1) p.toNat)
  | 0x31, [g, c] => some (.readGauge g.toNat c.toNat)
  | 0x32, [g, p0, p1] => some (.setGaugePosition g.toNat (pair p0 p1))
  | 0x33, [n, a0, a1, b0, b1] => some (.setSender n.toNat (pair a0 a1) (pair b0 b1))
  | 0x34, [n] => some (.readSender n.toNat)
  | 0x40, [a0, a1, b0, b1, c0, c1, d0, d1, r0, r1, s0, s1, l0, l1, i] =>
    some (.setFan (pair a0 a1) (pair b0 b1) (pair c0 c1) (pair d0 d1) (pair r0 r1) (pair s0 s1)
      (pair l0 l1) i.toNat)
  | 0x41, [] => some .readFan
  | 0x42, [c, l0, l1, s0, s1, e0, e1, x0, x1, h0, h1, m0, m1, t0, t1, b0, b1] =>
    some (.setSupply c.toNat (pair l0 l1) (pair s0 s1) (pair e0 e1) (pair x0 x1) (pair h0 h1)
      (pair m0 m1) (pair t0 t1) (pair b0 b1))
  | 0x43, [c] => some (.readSupply c.toNat)
  | 0x50, [t, i] => some (.tableOpen t.toNat i.toNat)
  | 0x51, [x0, x1, y0, y1] => some (.tablePoint (pair x0 x1) (pair y0 y1))
  | 0x52, [l] => some (.tableCommit l.toNat)
  | 0x53, [t, i] => some (.tableRead t.toNat i.toNat)
  | 0x54, [] => some .saveSettings
  | 0x55, [] => some .readStore
  | _, _ => none

/-- What a served frame asks for. -/
inductive Asked
  /-- no request of that KIND exists (R174) -/
  | unknownKind
  /-- the payload length is wrong for the kind (R163) -/
  | badLength
  /-- a request -/
  | request (i : Instr)
deriving DecidableEq, Repr

/-- A served frame is judged first on its kind, then on its length (R174). -/
def Frame.asks (f : Frame) : Asked :=
  match requestLength f.kind with
  | none => .unknownKind
  | some n =>
    if f.payload.length = n then
      match requestOf f.kind f.payload with
      | some i => .request i
      | none => .badLength
    else .badLength

/-! ### From a request to its frame -/

/-- The frame a request is sent in (R176); none for a row that is no request of the kind table. -/
def frameOf? : Instr → Option Frame
  | .hello => some ⟨0x01, []⟩
  | .restart => some ⟨0x02, []⟩
  | .readEvents => some ⟨0x08, []⟩
  | .setEvent e en l => some ⟨0x09, u8 e ++ u8 en ++ u8 l⟩
  | .setAttnLevel t => some ⟨0x0A, u8 t⟩
  | .setLinkTimeout t => some ⟨0x0B, u16 t⟩
  | .readDemand f r => some ⟨0x10, u8 f ++ u8 r⟩
  | .setDemand f v => some ⟨0x11, u8 f ++ u16 v⟩
  | .setDemandIf f v => some ⟨0x12, u8 f ++ u16 v⟩
  | .releaseDemand f => some ⟨0x13, u8 f⟩
  | .setFunction f m => some ⟨0x14, u8 f ++ u8 m⟩
  | .setInput i f a l p d => some ⟨0x15, u8 i ++ u8 f ++ u8 a ++ u16 l ++ u8 p ++ u8 d⟩
  | .readInputs i => some ⟨0x16, u8 i⟩
  | .setMap e r f l en => some ⟨0x20, u8 e ++ u8 r ++ u8 f ++ u8 l ++ u8 en⟩
  | .readMap e => some ⟨0x21, u8 e⟩
  | .setRole r c => some ⟨0x25, u8 r ++ u8 c⟩
  | .setChannel c p i q h r m o s =>
    some ⟨0x22, u8 c ++ u8 p ++ u16 i ++ u16 q ++ u16 h ++ u16 r ++ u16 m ++ u16 o ++ u8 s⟩
  | .readChannel c => some ⟨0x23, u8 c⟩
  | .clearChannel c => some ⟨0x24, u8 c⟩
  | .setFlasher r l => some ⟨0x26, u8 r ++ u16 l⟩
  | .readFlasher => some ⟨0x27, []⟩
  | .setGauge g b l k p => some ⟨0x30, u8 g ++ u8 b ++ u8 l ++ u16 k ++ u8 p⟩
  | .readGauge g c => some ⟨0x31, u8 g ++ u8 c⟩
  | .setGaugePosition g p => some ⟨0x32, u8 g ++ u16 p⟩
  | .setSender n a b => some ⟨0x33, u8 n ++ u16 a ++ u16 b⟩
  | .readSender n => some ⟨0x34, u8 n⟩
  | .setFan a b c d r s l i =>
    some ⟨0x40, u16 a ++ u16 b ++ u16 c ++ u16 d ++ u16 r ++ u16 s ++ u16 l ++ u8 i⟩
  | .readFan => some ⟨0x41, []⟩
  | .setSupply c l s e x h m t b =>
    some ⟨0x42, u8 c ++ u16 l ++ u16 s ++ u16 e ++ u16 x ++ u16 h ++ u16 m ++ u16 t ++ u16 b⟩
  | .readSupply c => some ⟨0x43, u8 c⟩
  | .tableOpen t i => some ⟨0x50, u8 t ++ u8 i⟩
  | .tablePoint x y => some ⟨0x51, u16 x ++ u16 y⟩
  | .tableCommit l => some ⟨0x52, u8 l⟩
  | .tableRead t i => some ⟨0x53, u8 t ++ u8 i⟩
  | .saveSettings => some ⟨0x54, []⟩
  | .readStore => some ⟨0x55, []⟩
  | .powerOnReset | .partRestart | .frameReceived _ | .frameBadLength _ | .frameGapTimeout
  | .replySent | .unknownKindRequest _ | .programmingComplete _ | .limpEntry | .switchRawChange _ _
  | .debounceExpiry _ | .runOnExpiry _ | .phaseBoundary | .inrushEnd _ | .pullInEnd _
  | .channelSample _ _ | .lampOpenDetect _ | .lampOpenClear _ | .goodRunExpiry _ | .tripWaitEnd _
  | .senderSample _ _ | .gaugeUpdate _ | .driverSample _ _ | .driverWaitEnd _ | .settleWindowEnd
  | .fanRampStep | .fanSample _ | .fanStall | .stallWaitEnd | .fanOpenDetect | .fanOpenClear
  | .sampleSlot _ _ | .leanTimerExpiry | .budgetTimerExpiry | .recoveryTimerExpiry
  | .shedTimerExpiry | .unshedTimerExpiry | .crankExitTimerExpiry | .crankLimitTimerExpiry
  | .powerLoss | .byteReceived _ => none

end Sys2Proof.Machine
end

