-- ==== Sys2Proof/Machine/Serve.lean ====
section
/-! DEFINITION. What every valid frame does (R162, R166, R168), how a served request is answered (R163), and how
a request command is served (log 3). -/

namespace Sys2Proof.Machine

/-- A frame's check passes: LIMP ends if the part is in it, and the link timer restarts (R162, R166, R168). -/
def State.validFrame (s : State) : State :=
  let t := if s.link.limp then s.exitLimp else s
  { t with link := { t.link with timer := 0 } }

/-- A reply is queued behind those that wait: causes are answered in the order they were found (R163). -/
def appendReply (frame : Frame) (outbox : List Outgoing) : List Outgoing := outbox ++ [.reply frame]

/-- A reply takes the place kept for it since its frame's check passed (R163, log 16). -/
def fillAwaited (frame : Frame) : List Outgoing → List Outgoing
  | [] => [.reply frame]
  | .awaited :: rest => .reply frame :: rest
  | o :: rest => o :: fillAwaited frame rest

/-- A frame becomes the served frame, its request is taken, and its reply is formed then (R162, R163). -/
def State.answer (s : State) (frame : Frame) (take : State → State × Reply)
    (place : Frame → List Outgoing → List Outgoing) : State :=
  let r := take { s with link := { s.link with served := some frame } }
  { r.1 with link := { r.1.link with outbox := place (frame.replyWith r.2) r.1.link.outbox } }

/-- The frame waits as pending: a frame already held is replaced, never answered, and LINK_OVERRUN takes its
KIND (R162); the reply's place in the order is the one of this frame's check (R163, log 16). -/
def State.holdPending (s : State) (frame : Frame) : State :=
  let t : State := { s with link := { s.link with
      pendingFrame := some frame
      outbox := s.link.outbox.filter (fun o => !(o == .awaited)) ++ [.awaited] } }
  match s.link.pendingFrame with
  | some old => t.raise .linkOverrun old.kind.toNat
  | none => t

/-- A valid frame is handed on (R162): the link timer and LIMP first; then it is served at once and its request taken,
or it waits as pending where a frame is being served or a restart is to come (R165). -/
def State.handOn (s : State) (frame : Frame) (take : State → State × Reply) : State :=
  let t := s.validFrame
  if t.link.served.isSome || t.restarting then t.holdPending frame
  else t.answer frame take appendReply

/-- A request command: its valid frame arrives (log 3). A part held in power-on reset takes none. -/
def State.serve (s : State) (i : Instr) (take : State → State × Reply) : State :=
  s.whenPowered fun s =>
    match frameOf? i with
    | some frame => s.handOn frame take
    | none => s

end Sys2Proof.Machine
end

