-- ==== Sys2Proof/Machine/DemandCommands.lean ====
section
/-! DEFINITION. The commands of the switch inputs and the demand table (R2 to R20): requests, pin changes and
debounce expiries. -/

namespace Sys2Proof.Machine

/-! ### Requests on functions -/

/-- READ_DEMAND (R16): the record, and the reservation taken where the reserve flag is set. -/
def takeReadDemand (function reserve : Nat) (s : State) : State × Reply :=
  match function? function, truth? reserve with
  | some f, some flag =>
    let t := if flag then { s with reservation := some f } else s
    let r := t.fn f
    accept t (u16 r.switch ++ truth r.link.isSome ++ u16OrNone r.link ++ u8 (t.mode f).code
      ++ u16 r.effective ++ truth r.latch ++ truth (t.reservation == some f))
  | _, _ => refuse .badArg s

/-- SET_DEMAND's write of a function (R11). -/
def State.linkWrite (s : State) (f : Fn) (value : Nat) : State :=
  s.writeFn f (linkedRecord f (s.fn f) value)

/-- SET_DEMAND (R11). -/
def takeSetDemand (function value : Nat) (s : State) : State × Reply :=
  match function? function with
  | none => refuse .badArg s
  | some f =>
    if s.mode f = .switchOnly then refuse .notRemote s
    else
      let t := s.linkWrite f value
      accept t (u16 (min value f.maxValue) ++ u16 (t.eff f))

/-- SET_DEMAND_IF (R17): as SET_DEMAND where the reservation names the function; the reservation clears
whether stored or not. -/
def takeSetDemandIf (function value : Nat) (s : State) : State × Reply :=
  match function? function with
  | none => refuse .badArg s
  | some f =>
    if s.mode f = .switchOnly then refuse .notRemote s
    else if s.reservation = some f then
      let t := s.linkWrite f value
      accept { t with reservation := none }
        (u8 1 ++ u16 (min value f.maxValue) ++ u16 (t.eff f))
    else
      accept { s with reservation := none } (u8 0 ++ u16OrNone none ++ u16 (s.eff f))

/-- RELEASE_DEMAND (R12). -/
def takeReleaseDemand (function : Nat) (s : State) : State × Reply :=
  match function? function with
  | none => refuse .badArg s
  | some f =>
    if s.mode f = .switchOnly then refuse .notRemote s
    else
      let t := s.writeFn f (releasedRecord f (s.mode f) (s.fn f))
      accept t (u16 (t.eff f))

/-- The working copy with a function's source mode. -/
def State.withMode (s : State) (f : Fn) (mode : SourceMode) : State :=
  { s with settings := { s.settings with modes := s.settings.modes.set f.idx mode } }

/-- SET_FUNCTION (R13). -/
def takeSetFunction (function mode : Nat) (s : State) : State × Reply :=
  match function? function, sourceMode? mode with
  | some f, some m =>
    let t := (s.withMode f m).writeFn f (remodedRecord f m (s.fn f))
    accept t (u8 m.code ++ u16 (t.eff f))
  | _, _ => refuse .badArg s

/-! ### Requests on inputs -/

/-- The binding record a SET_INPUT asks for, after the checks and clamps of R4. -/
def bindingOf? (function action level polarity debounce : Nat) : Option Binding :=
  match orNone? function? function, action? action, polarity? polarity with
  | some f, some a, some p => some
    { function := f, action := a
      level := match f with
        | some f => min level f.maxValue
        | none => 0
      polarity := p, debounce := clamp 5 200 debounce }
  | _, _, _ => none

/-- The whole record is replaced at once (R4); a polarity change leaves the input UNSETTLED (R3) with its count
starting again (DESIGN CHOICE, unsafe, log 13). -/
def State.replaceBinding (s : State) (i : Fin 12) (b : Binding) : State :=
  let t := { s with settings := { s.settings with bindings := s.settings.bindings.set i b } }
  if (s.binding i).polarity = b.polarity then t
  else t.setInput i { s.input i with debounced := .unsettled, count := 0 }

/-- Step 1 of R7: the LEVEL evaluation of the old function without the input. -/
def State.leaveFunction (s : State) (i : Fin 12) (old : Binding) : State :=
  match old.function, old.action with
  | some f, .level => s.switchTo f (s.levelValue f fun j => j != i)
  | _, _ => s

/-- Steps 4 and 2 of R7: a function that had no input first takes 0, then a LEVEL binding is evaluated. -/
def State.joinFunction (s : State) (b : Binding) (boundBefore : Fn → Bool) : State :=
  match b.function with
  | none => s
  | some g =>
    let t := if boundBefore g then s else s.switchTo g 0
    if b.action = .level then t.switchTo g (t.levelEvaluation g) else t

/-- Step 3 of R7: a function left with no input takes its rest value. -/
def State.restUnbound (s : State) (old : Binding) : State :=
  match old.function with
  | some f => if isBound s.settings.bindings f then s else s.switchTo f f.restValue
  | none => s

/-- SET_INPUT's change of a binding (R3, R4, R7), and the settling at once of an input whose count has already
passed the new debounce time (R2). The steps of R7 are taken one after the other (log 14). The settling is taken as a
debounced edge under the new binding, apart from the binding change, which is no edge (DESIGN CHOICE, unsafe, log 35). -/
def State.bindInput (s : State) (i : Fin 12) (b : Binding) : State :=
  ((((s.replaceBinding i b).leaveFunction i (s.binding i)).joinFunction b
    (isBound s.settings.bindings)).restUnbound (s.binding i)).settleIfDue i

/-- The five fields of a binding as a reply carries them (R176). -/
def bindingBytes (b : Binding) : List Byte :=
  u8OrNone (b.function.map fun f => f.idx.val) ++ u8 b.action.code ++ u16 b.level
    ++ u8 b.polarity.code ++ u8 b.debounce

/-- SET_INPUT (R4, R7). -/
def takeSetInput (input function action level polarity debounce : Nat) (s : State) : State × Reply :=
  match index? 12 input, bindingOf? function action level polarity debounce with
  | some i, some b => accept (s.bindInput i b) (bindingBytes b)
  | _, _ => refuse .badArg s

/-- READ_INPUTS (R8). -/
def takeReadInputs (input : Nat) (s : State) : State × Reply :=
  match index? 12 input with
  | none => refuse .badArg s
  | some i =>
    accept s ((List.finRange 12).flatMap (fun j => truth (s.raw j))
      ++ (List.finRange 12).flatMap (fun j => u8 (s.input j).debounced.code)
      ++ bindingBytes (s.binding i))

/-! ### The commands -/

/-- READ_DEMAND. -/
def execReadDemand (function reserve : Nat) (s : State) : Host.Outcome State Fault Refusal :=
  .next (s.serve (.readDemand function reserve) (takeReadDemand function reserve))

/-- SET_DEMAND. -/
def execSetDemand (function value : Nat) (s : State) : Host.Outcome State Fault Refusal :=
  .next (s.serve (.setDemand function value) (takeSetDemand function value))

/-- SET_DEMAND_IF. -/
def execSetDemandIf (function value : Nat) (s : State) : Host.Outcome State Fault Refusal :=
  .next (s.serve (.setDemandIf function value) (takeSetDemandIf function value))

/-- RELEASE_DEMAND. -/
def execReleaseDemand (function : Nat) (s : State) : Host.Outcome State Fault Refusal :=
  .next (s.serve (.releaseDemand function) (takeReleaseDemand function))

/-- SET_FUNCTION. -/
def execSetFunction (function mode : Nat) (s : State) : Host.Outcome State Fault Refusal :=
  .next (s.serve (.setFunction function mode) (takeSetFunction function mode))

/-- SET_INPUT. -/
def execSetInput (input function action level polarity debounce : Nat) (s : State) :
    Host.Outcome State Fault Refusal :=
  .next (s.serve (.setInput input function action level polarity debounce)
    (takeSetInput input function action level polarity debounce))

/-- READ_INPUTS. -/
def execReadInputs (input : Nat) (s : State) : Host.Outcome State Fault Refusal :=
  .next (s.serve (.readInputs input) (takeReadInputs input))

/-- SWITCH_RAW_CHANGE: the pin moves, held in reset or not, since the raw level follows the pin at all
times (R1); its count restarts when the raw level changes (R2). -/
def execSwitchRawChange (input : Fin 12) (contact : Contact) (s : State) :
    Host.Outcome State Fault Refusal :=
  .next (s.moveContact input contact)

/-- DEBOUNCE_EXPIRY: the raw level has been held for the debounce time (R2, R3; log 2). -/
def execDebounceExpiry (input : Fin 12) (s : State) : Host.Outcome State Fault Refusal :=
  .next (s.whenPowered fun s =>
    (s.setInput input { s.input input with
      count := max (s.input input).count (s.binding input).debounce }).settleInput input)

/-- LIMP_ENTRY: the link timer, which runs outside LIMP while the timeout is not 0, reaches it (R166, R167). -/
def execLimpEntry (s : State) : Host.Outcome State Fault Refusal :=
  .next (s.whenPowered fun s =>
    if s.link.limp || s.settings.linkTimeout == 0 then s else s.enterLimp)

end Sys2Proof.Machine
end

