-- ==== Sys2Proof/Machine/FanCommands.lean ====
section
/-! DEFINITION. The commands of the heater fan (R119 to R131). -/

namespace Sys2Proof.Machine

/-- The settings taken, every field brought into range (R121). -/
def fanConfigOf (duty1 duty2 duty3 ramp settle stall : Nat) (ignitionFed : Bool) : FanConfig :=
  { duty1 := min duty1 1000, duty2 := min duty2 1000, duty3 := min duty3 1000
    rampStep := clamp 10 1000 ramp, settleWindow := min settle 3000
    stallLimit := clamp 2000 15000 stall, ignitionFed := ignitionFed }

/-- The five settings as a reply carries them, 15 bytes (R176). -/
def fanConfigBytes (cfg : FanConfig) : List Byte :=
  u16 (cfg.stepDuty 0) ++ u16 cfg.duty1 ++ u16 cfg.duty2 ++ u16 cfg.duty3 ++ u16 cfg.rampStep
    ++ u16 cfg.settleWindow ++ u16 cfg.stallLimit ++ truth cfg.ignitionFed

/-- What a change of ignition-fed does while IGN is 0 (R122). -/
def State.fanOnFeed (s : State) (before : Bool) : State :=
  let now := s.settings.fan.ignitionFed
  if now = before ∨ s.eff .ign = 1 then s
  else if now then s.dropStep
  else if s.eff .fan = 0 then s
  else s.startSettle

/-- A running settle timer that has already passed the window ends at once (R121). -/
def State.settleWindowJudged (s : State) : State :=
  match s.fan.settle with
  | some t => if s.settings.fan.settleWindow ≤ t then s.endSettle else s
  | none => s

/-- SET_FAN's effect (R121, R122): the settings, the change of ignition-fed, the settle timer judged against the new window,
and then the fan follows its target duty once. The spec gives no order among these (DESIGN CHOICE, unsafe, log 39). -/
def State.changeFan (s : State) (cfg : FanConfig) : State :=
  let t : State := { s with settings := { s.settings with fan := cfg } }
  ((t.fanOnFeed s.settings.fan.ignitionFed).settleWindowJudged).react

/-- SET_FAN (R121). The duty of step 0 is taken as 0, whatever is sent. -/
def takeSetFan (_duty0 duty1 duty2 duty3 ramp settle stall ignitionFed : Nat) (s : State) :
    State × Reply :=
  match truth? ignitionFed with
  | none => refuse .badArg s
  | some fed =>
    let cfg := fanConfigOf duty1 duty2 duty3 ramp settle stall fed
    accept (s.changeFan cfg) (fanConfigBytes cfg)

/-- READ_FAN (R131). The elapsed time of a stopped settle timer is sent as 0 (DESIGN CHOICE, unsafe, log 38). -/
def takeReadFan (s : State) : State × Reply :=
  let f := s.fan
  accept s (u8 f.state.code ++ u16 f.dutyNow ++ u8 f.targetStep ++ u16 s.fanTarget ++ u16 s.fanCap
    ++ truth f.settle.isSome ++ u16 (f.settle.getD 0) ++ u16 f.current ++ u8 f.stallCount
    ++ truth f.openFlag ++ u16 f.waitTimer ++ fanConfigBytes s.settings.fan)

/-! ### The commands -/

/-- SET_FAN. -/
def execSetFan (duty0 duty1 duty2 duty3 ramp settle stall ignitionFed : Nat) (s : State) :
    Host.Outcome State Fault Refusal :=
  .next (s.serve (.setFan duty0 duty1 duty2 duty3 ramp settle stall ignitionFed)
    (takeSetFan duty0 duty1 duty2 duty3 ramp settle stall ignitionFed))

/-- READ_FAN. -/
def execReadFan (s : State) : Host.Outcome State Fault Refusal :=
  .next (s.serve .readFan takeReadFan)

/-- SETTLE_WINDOW_END: a running settle timer reaches the settle window (R122; log 2). -/
def execSettleWindowEnd (s : State) : Host.Outcome State Fault Refusal :=
  .next (s.whenPowered fun s => if s.fan.settle.isSome then s.endSettle.react else s)

/-- FAN_RAMP_STEP: the ramp timer passes another 100 ms in RAMP (R124; log 2). -/
def execFanRampStep (s : State) : Host.Outcome State Fault Refusal :=
  .next (s.whenPowered fun s =>
    if s.fan.state = .ramp then
      { s with fan := s.fan.rampReached.rampStep s.settings.fan.rampStep s.fanTarget }
    else s)

/-- FAN_SAMPLE (R119, R125, R126, R129). -/
def execFanSample (milliamps : Nat) (s : State) : Host.Outcome State Fault Refusal :=
  .next (s.whenPowered fun s => s.sampleFan milliamps)

/-- FAN_STALL: the running stall run reaches 2 s in RAMP or RUN, outside CRANK (R125, R127, R130; log 2). -/
def execFanStall (s : State) : Host.Outcome State Fault Refusal :=
  .next (s.whenPowered fun s =>
    if s.fan.state.conducting && s.fan.stallRun.isSome && !(s.supply.state == .crank) then s.fanFault 0
    else s)

/-- STALL_WAIT_END: the wait timer reaches 10 s; the fan ramps if its target duty is above 0, otherwise it
is OFF (R127; log 2). -/
def execStallWaitEnd (s : State) : Host.Outcome State Fault Refusal :=
  .next (s.whenPowered fun s =>
    if s.fan.state = .stallWait then ({ s with fan := s.fan.stopIn .off } : State).fanFollow else s)

/-- The fan's open-test time (R129), in ms. -/
def fanOpenTestTime : Nat := 2000

/-- FAN_OPEN_DETECT: the running low run reaches 2 s in RAMP or RUN (R129; log 2). -/
def execFanOpenDetect (s : State) : Host.Outcome State Fault Refusal :=
  .next (s.whenPowered fun s =>
    if s.fan.state.conducting && s.fan.lowRun.isSome then
      { s with fan := { s.fan with lowRun := reachRun fanOpenTestTime s.fan.lowRun, openFlag := true } }
    else s)

/-- FAN_OPEN_CLEAR: the running high run reaches 2 s in RAMP or RUN (R129; log 2). -/
def execFanOpenClear (s : State) : Host.Outcome State Fault Refusal :=
  .next (s.whenPowered fun s =>
    if s.fan.state.conducting && s.fan.highRun.isSome then
      { s with fan := { s.fan with highRun := reachRun fanOpenTestTime s.fan.highRun, openFlag := false } }
    else s)

end Sys2Proof.Machine
end

