-- ==== Sys2Proof/Machine/GaugeCommands.lean ====
section
/-! DEFINITION. The commands of the senders, the gauges and the gauge drivers (R84 to R116). -/

namespace Sys2Proof.Machine

/-! ### Senders -/

/-- The band of a reading under the thresholds (R86). -/
def bandOf (cfg : SenderConfig) (reading : Nat) : Band :=
  if reading < cfg.shortAt then .low else if reading < cfg.openAt then .valid else .high

/-- The sender state a band points to (R86). -/
def Band.pointsTo : Band → SenderState
  | .low => .shorted
  | .valid => .ok
  | .high => .open

/-- The run count after a reading in a band (R87). -/
def Sender.countAfter (n : Sender) (band : Band) : Nat :=
  if n.band = some band then min 3 (n.runCount + 1) else 1

/-- A sample completes: latest sample, band run and state, as one event (R85, R87). -/
def Sender.sampled (n : Sender) (cfg : SenderConfig) (reading : Nat) : Sender :=
  let band := bandOf cfg reading
  let count := n.countAfter band
  { latest := some reading, band := some band, runCount := count
    state := if count = 3 then band.pointsTo else n.state }

/-- A sender sample; a sender whose state becomes OPEN or SHORTED from any other sets GAUGE_FAULT with detail
16 plus its number (R88). -/
def State.sampleSender (s : State) (n : Fin 4) (pin : SenderPin) : State :=
  let after := (s.sender n).sampled (s.senderConfig n) (senderReading pin)
  let t := s.setSender n after
  if after.state = (s.sender n).state ∨ after.state = .ok then t else t.raise .gaugeFault (16 + n.val)

/-- SET_SENDER's effect: the thresholds, and the band run emptied (R91). -/
def State.changeSender (s : State) (n : Fin 4) (cfg : SenderConfig) : State :=
  ({ s with settings := { s.settings with senders := s.settings.senders.set n cfg } } : State).setSender n
    { s.sender n with band := none, runCount := 0 }

/-- SET_SENDER (R91). -/
def takeSetSender (sender short openAt : Nat) (s : State) : State × Reply :=
  match index? 4 sender with
  | none => refuse .badArg s
  | some n =>
    let cfg : SenderConfig := ⟨clamp 0 100 short, clamp 1000 5000 openAt⟩
    accept (s.changeSender n cfg) (u8 n.val ++ u16 cfg.shortAt ++ u16 cfg.openAt)

/-- READ_SENDER (R92). -/
def takeReadSender (sender : Nat) (s : State) : State × Reply :=
  match index? 4 sender with
  | none => refuse .badArg s
  | some n =>
    let x := s.sender n
    let cfg := s.senderConfig n
    accept s (truth x.latest.isSome ++ u16 (x.latest.getD 0) ++ u8 (bandCode x.band) ++ u8 x.runCount
      ++ u8 x.state.code ++ u16 cfg.shortAt ++ u16 cfg.openAt)

/-! ### The lookup -/

/-- What a lookup finds: its result, and whether it sets LOW or HIGH (R98). -/
structure Found where
  value : Nat
  low : Bool
  high : Bool
deriving DecidableEq, Repr

/-- Inside a segment from `p` to `q`: `y` of `p` plus the rounded quotient (R98). -/
def interpolate (p q : Point) (u : Nat) : Nat :=
  (p.y + roundHalfAway (((u : Int) - p.x) * ((q.y : Int) - p.y)) (q.x - p.x) : Int).toNat

/-- The lookup from a point at or below `u` on: the segment that holds `u`, the last point, or above the
table (R98). -/
def lookupFrom (u : Nat) (p : Point) : Table → Found
  | [] => { value := p.y, low := false, high := decide (p.x < u) }
  | q :: rest =>
    if u < q.x then { value := interpolate p q u, low := false, high := false }
    else lookupFrom u q rest

/-- The lookup of a table at `u` (R98). A table always has points (R97); an empty one finds 0 (log 28). -/
def lookup (table : Table) (u : Nat) : Found :=
  match table with
  | [] => { value := 0, low := false, high := false }
  | p :: rest => if u < p.x then { value := p.y, low := true, high := false } else lookupFrom u p rest

/-! ### The stages of an update -/

/-- Stages 1 and 2: the target, FAULT, and LOW and HIGH as the sender lookup leaves them; none where a bound
sender has no sample (R99 to R101). -/
def State.gaugeInput (s : State) (g : Fin 4) : Option (Nat × Bool × Found) :=
  let x := s.gauge g
  match (s.gaugeConfig g).binding with
  | none => some (x.linkPosition, false, ⟨x.linkPosition, false, false⟩)
  | some n =>
    match (s.sender n).latest with
    | none => none
    | some r =>
      if (s.sender n).state = .ok then
        let found := lookup (s.senderTable g) r
        some (found.value, false, found)
      else
        let target := match (s.gaugeConfig g).policy with
          | .hold => x.target
          | .rest => 0
          | .full => 1000
        some (target, true, ⟨target, false, false⟩)

/-- Stage 3: the step toward the target, truncated toward zero, never 0 short of it (R102). -/
def damped (filtered target k : Nat) : Nat :=
  let d : Int := (target : Int) - filtered
  let step := (d * k).tdiv 256
  let step := if step = 0 then d.sign else step
  ((filtered : Int) + step).toNat

/-- Stage 5 before saturation: the duty by the gauge's law (R105, R106). -/
def rawDuty (law : Law) (required supply : Nat) : Nat :=
  match law with
  | .magnetic => roundHalfUp (1000 * required) supply
  | .thermal => roundHalfUp (1000 * required ^ 2) (supply ^ 2)

/-- Stage 5: the duty and SAT; no mean yet, or one below 3000 mV, gives duty 0 and SAT clear (R104, R107). -/
def compensated (law : Law) (required : Nat) (mean : Option Nat) : Nat × Bool :=
  match mean with
  | none => (0, false)
  | some supply =>
    if supply < 3000 then (0, false)
    else (min 1000 (rawDuty law required supply), decide (1000 < rawDuty law required supply))

/-- The record after an update that runs its stages (R99 to R108). -/
def State.gaugeUpdated (s : State) (g : Fin 4) (target : Nat) (fault : Bool) (found : Found) : Gauge :=
  let x := s.gauge g
  let cfg := s.gaugeConfig g
  let filtered := damped x.filtered target cfg.k
  let gaugeFound := lookup (s.gaugeTable g) filtered
  let drive := compensated cfg.law gaugeFound.value s.supply.batMean
  let low := found.low || gaugeFound.low
  let high := found.high || gaugeFound.high
  { x with
    target := target, filtered := filtered, required := gaugeFound.value, duty := drive.1,
    low := low, high := high, sat := drive.2, fault := fault,
    sum := x.sum || low || high || drive.2 || fault }

/-- One update of a gauge as one event (R96): frozen in CRANK (R112); duty 0 where its sender has no sample
(R99); otherwise the stages, and GAUGE_SAT where SAT becomes set (R107). -/
def State.updateGauge (s : State) (g : Fin 4) : State :=
  if s.supply.state = .crank then s
  else match s.gaugeInput g with
    | none => s.setGauge g { s.gauge g with duty := 0 }
    | some (target, fault, found) =>
      let after := s.gaugeUpdated g target fault found
      let t := s.setGauge g after
      if after.sat && !(s.gauge g).sat then t.raise .gaugeSat g.val else t

/-! ### Drivers -/

/-- The top of a driver's measuring range (R110). -/
def driverTop : Nat := 1000

/-- A driver's current sample, inside an on-pulse: there is none while it is WAITING or the duty is 0 (R110,
R111). A trip enters WAITING, sets SUM, and sets GAUGE_FAULT with the gauge's number (R111). -/
def State.sampleDriver (s : State) (g : Fin 4) (milliamps : Nat) : State :=
  let x := s.gauge g
  let reading := currentReading driverTop milliamps
  if x.driver = .waiting ∨ x.duty = 0 then s
  else if 750 < reading then
    (s.setGauge g { x with
      driverSample := reading, driver := .waiting, driverWait := 0, sum := true }).raise .gaugeFault g.val
  else s.setGauge g { x with driverSample := reading }

/-! ### Requests on gauges -/

/-- SET_GAUGE (R114). -/
def takeSetGauge (gauge binding law k policy : Nat) (s : State) : State × Reply :=
  match index? 4 gauge, orNone? (index? 4) binding, law? law, policy? policy with
  | some g, some b, some l, some p =>
    let cfg : GaugeConfig := ⟨b, l, clamp 1 256 k, p⟩
    accept { s with settings := { s.settings with gauges := s.settings.gauges.set g cfg } }
      (u8OrNone (b.map fun n => n.val) ++ u8 l.code ++ u16 cfg.k ++ u8 p.code)
  | _, _, _, _ => refuse .badArg s

/-- The reply of READ_GAUGE (R116). -/
def State.gaugeBytes (s : State) (g : Fin 4) : List Byte :=
  let x := s.gauge g
  let cfg := s.gaugeConfig g
  u8OrNone (cfg.binding.map fun n => n.val) ++ u8 cfg.law.code ++ u16 cfg.k ++ u8 cfg.policy.code
    ++ u16 x.linkPosition ++ u16 x.target ++ u16 x.filtered ++ u16 x.required ++ u16 x.duty
    ++ u8 x.flagsByte ++ u8 x.driver.code ++ u16 x.driverCurrent

/-- READ_GAUGE (R116): SUM is cleared once the reply has been formed, where the clear option is yes. -/
def takeReadGauge (gauge clear : Nat) (s : State) : State × Reply :=
  match index? 4 gauge, truth? clear with
  | some g, some c =>
    accept (if c then s.setGauge g { s.gauge g with sum := false } else s) (s.gaugeBytes g)
  | _, _ => refuse .badArg s

/-- SET_GAUGE_POSITION (R115). -/
def takeSetGaugePosition (gauge position : Nat) (s : State) : State × Reply :=
  match index? 4 gauge with
  | none => refuse .badArg s
  | some g =>
    if (s.gaugeConfig g).binding.isSome then refuse .inUse s
    else accept (s.setGauge g { s.gauge g with linkPosition := min position 1000 })
      (u16 (min position 1000))

/-! ### The commands -/

/-- SET_GAUGE. -/
def execSetGauge (gauge binding law k policy : Nat) (s : State) : Host.Outcome State Fault Refusal :=
  .next (s.serve (.setGauge gauge binding law k policy) (takeSetGauge gauge binding law k policy))

/-- READ_GAUGE. -/
def execReadGauge (gauge clear : Nat) (s : State) : Host.Outcome State Fault Refusal :=
  .next (s.serve (.readGauge gauge clear) (takeReadGauge gauge clear))

/-- SET_GAUGE_POSITION. -/
def execSetGaugePosition (gauge position : Nat) (s : State) : Host.Outcome State Fault Refusal :=
  .next (s.serve (.setGaugePosition gauge position) (takeSetGaugePosition gauge position))

/-- SET_SENDER. -/
def execSetSender (sender short openAt : Nat) (s : State) : Host.Outcome State Fault Refusal :=
  .next (s.serve (.setSender sender short openAt) (takeSetSender sender short openAt))

/-- READ_SENDER. -/
def execReadSender (sender : Nat) (s : State) : Host.Outcome State Fault Refusal :=
  .next (s.serve (.readSender sender) (takeReadSender sender))

/-- SENDER_SAMPLE: in every supply state (R85, R90). -/
def execSenderSample (n : Fin 4) (pin : SenderPin) (s : State) : Host.Outcome State Fault Refusal :=
  .next (s.whenPowered fun s => s.sampleSender n pin)

/-- GAUGE_UPDATE: the update comes at its time, and the next one is counted from it (R96). -/
def execGaugeUpdate (g : Fin 4) (s : State) : Host.Outcome State Fault Refusal :=
  .next (s.whenPowered fun s =>
    let t := s.updateGauge g
    t.setGauge g { t.gauge g with sinceUpdate := 0 })

/-- DRIVER_SAMPLE (R110, R111). -/
def execDriverSample (g : Fin 4) (milliamps : Nat) (s : State) : Host.Outcome State Fault Refusal :=
  .next (s.whenPowered fun s => s.sampleDriver g milliamps)

/-- DRIVER_WAIT_END: a WAITING driver has waited 1 s and returns to DRIVING (R111; log 2). Its wait time stands at 0 in
DRIVING (DESIGN CHOICE, unsafe, log 40). -/
def execDriverWaitEnd (g : Fin 4) (s : State) : Host.Outcome State Fault Refusal :=
  .next (s.whenPowered fun s =>
    if (s.gauge g).driver = .waiting then
      s.setGauge g { s.gauge g with driver := .driving, driverWait := 0 }
    else s)

end Sys2Proof.Machine
end

