-- ==== Sys2Proof/Machine/LightingCommands.lean ====
section
/-! DEFINITION. The commands of the map, the roles, the power channels and the flasher (R30 to R81). -/

namespace Sys2Proof.Machine

/-! ### The map and the roles -/

/-- A map entry as a reply carries it (R176). -/
def mapEntryBytes (e : MapEntry) : List Byte :=
  u8 e.role.idx.val ++ u8 e.first.val ++ u8 e.last.val ++ truth e.enabled

/-- The working copy with a map entry. -/
def State.withMapEntry (s : State) (e : Fin 16) (m : MapEntry) : State :=
  { s with settings := { s.settings with map := s.settings.map.set e m } }

/-- SET_MAP (R32): range checks, then the order of the channels, then the in-use check. -/
def takeSetMap (entry role first last enabled : Nat) (s : State) : State × Reply :=
  match index? 16 entry, role? role, index? 16 first, index? 16 last, truth? enabled with
  | some e, some r, some a, some b, some on =>
    let held := s.mapEntry e
    if b < a then refuse .badArg s
    else if held.enabled && !(held.role == r && held.first == a && held.last == b) then
      refuse .inUse s
    else accept (s.withMapEntry e ⟨r, a, b, on⟩).react (u8 e.val ++ mapEntryBytes ⟨r, a, b, on⟩)
  | _, _, _, _, _ => refuse .badArg s

/-- READ_MAP (R33). -/
def takeReadMap (entry : Nat) (s : State) : State × Reply :=
  match index? 16 entry with
  | none => refuse .badArg s
  | some e =>
    let m := s.mapEntry e
    accept s (mapEntryBytes m ++ truth (s.roleActive m.role) ++ u8 (s.shedClass m.role)
      ++ truth (s.roleShed m.role))

/-- The working copy with a role's shed class. -/
def State.withShedClass (s : State) (r : Role) (cls : Nat) : State :=
  { s with settings := { s.settings with shedClasses := s.settings.shedClasses.set r.idx cls } }

/-- SET_ROLE (R30). -/
def takeSetRole (role cls : Nat) (s : State) : State × Reply :=
  match role? role with
  | none => refuse .badArg s
  | some r => accept (s.withShedClass r (min cls 3)).react (u8 r.idx.val ++ u8 (min cls 3))

/-! ### Channels -/

/-- The run limit range of a channel's group (R41). -/
def clampRunLimit (c : Fin 16) (limit : Nat) : Nat :=
  if isHeavy c then clamp 1000 20000 limit else clamp 250 6000 limit

/-- The inrush window taken: 0 asks for the profile's default (R43). -/
def inrushWindowOf (profile : Profile) (window : Nat) : Nat :=
  if window = 0 then (if profile = .led then 5 else 100) else clamp 5 500 window

/-- The configuration taken, every field brought into range (R43). -/
def channelConfigOf (c : Fin 16) (profile : Profile) (inrush pullIn hold run inrushLimit openAt : Nat)
    (substitute : Option (Fin 16)) : ChannelConfig :=
  let limit := clampRunLimit c run
  { profile := profile
    inrushWindow := inrushWindowOf profile inrush
    pullIn := clamp 50 1000 pullIn
    holdDuty := clamp 200 1000 hold
    runLimit := limit
    inrushLimit := clamp limit (channelTop c) inrushLimit
    openThreshold := clamp 20 2000 openAt
    substitute := substitute }

/-- A channel's configuration as a reply carries it, 14 bytes (R176). -/
def channelConfigBytes (cfg : ChannelConfig) : List Byte :=
  u8 cfg.profile.code ++ u16 cfg.inrushWindow ++ u16 cfg.pullIn ++ u16 cfg.holdDuty ++ u16 cfg.runLimit
    ++ u16 cfg.inrushLimit ++ u16 cfg.openThreshold ++ u8OrNone (cfg.substitute.map fun c => c.val)

/-- The working copy with a channel's configuration. -/
def State.withChannelConfig (s : State) (c : Fin 16) (cfg : ChannelConfig) : State :=
  { s with settings := { s.settings with channels := s.settings.channels.set c cfg } }

/-- SET_CHANNEL (R43, R44). -/
def takeSetChannel (channel profile inrush pullIn hold run inrushLimit openAt substitute : Nat)
    (s : State) : State × Reply :=
  match index? 16 channel, profile? profile, orNone? (index? 16) substitute with
  | some c, some p, some sub =>
    if sub = some c then refuse .badArg s
    else if (s.channel c).state = .off ∨ (s.channel c).state = .lockedOff then
      let cfg := channelConfigOf c p inrush pullIn hold run inrushLimit openAt sub
      accept (s.withChannelConfig c cfg).react (u8 c.val ++ channelConfigBytes cfg)
    else refuse .inUse s
  | _, _, _ => refuse .badArg s

/-- The duty of a composed demand as a reply carries it: its own when steady. R63 gives no duty to none and to flash, and
R174 and R176 no figure for its two bytes; the model sends 0 (DESIGN CHOICE, unsafe, log 37). -/
def Demand.duty : Demand → Nat
  | .steady d => d
  | .none | .flash => 0

/-- READ_CHANNEL (R63). -/
def takeReadChannel (channel : Nat) (s : State) : State × Reply :=
  match index? 16 channel with
  | none => refuse .badArg s
  | some c =>
    let x := s.channel c
    accept s (u8 x.state.code ++ u16 (s.dutyNow c) ++ u16 x.current ++ truth x.openFlag
      ++ u8 x.tripCount ++ u8 (s.composedDemand c).code ++ u16 (s.composedDemand c).duty
      ++ truth (s.receiving c) ++ truth (s.carrying c) ++ channelConfigBytes (s.channelConfig c))

/-- CLEAR_CHANNEL's effect: the count returns to 0, and a LOCKED_OFF channel enters OFF, from which it
begins an activation at once if it is called (R62). -/
def State.clearChannel (s : State) (c : Fin 16) : State :=
  let x := s.channel c
  (s.setChannel c { x with
    tripCount := 0, state := if x.state = .lockedOff then .off else x.state }).react

/-- CLEAR_CHANNEL (R62). -/
def takeClearChannel (channel : Nat) (s : State) : State × Reply :=
  match index? 16 channel with
  | none => refuse .badArg s
  | some c =>
    let t := s.clearChannel c
    accept t (u8 (t.channel c).state.code ++ u8 (t.channel c).tripCount)

/-! ### The flasher -/

/-- The run-on limit taken, in seconds: 0, or brought into 10 to 300 (R80). -/
def runOnLimitOf (limit : Nat) : Nat := if limit = 0 then 0 else clamp 10 300 limit

/-- A side whose running timer is not below the limit expires at once (R79). -/
def State.expireIfDue (s : State) (side : Side) : State :=
  match s.runOn side with
  | some t =>
    if !(s.settings.runOnLimit == 0) && decide (s.settings.runOnLimit * 1000 ≤ t) then s.cancelSide side
    else s
  | none => s

/-- SET_FLASHER's effect: both settings at once (R80), then the timers are judged, left first (R79, log 17). -/
def State.changeFlasher (s : State) (rate limit : Nat) : State :=
  let t := ({ s with settings := { s.settings with flashRate := rate, runOnLimit := limit } } : State).react
  (t.expireIfDue .left).expireIfDue .right

/-- SET_FLASHER (R79, R80). -/
def takeSetFlasher (rate runOn : Nat) (s : State) : State × Reply :=
  accept (s.changeFlasher (clamp 60 120 rate) (runOnLimitOf runOn))
    (u8 (clamp 60 120 rate) ++ u16 (runOnLimitOf runOn))

/-- READ_FLASHER (R81). -/
def takeReadFlasher (s : State) : State × Reply :=
  let f := s.flasher
  accept s (u8 f.cadence.code ++ u16 f.phaseTimer ++ u16 f.phaseLength ++ truth f.doubled
    ++ u8 (sidesCode (s.sideActive .left) (s.sideActive .right))
    ++ u8 (sidesCode (s.throughIndicator .left) (s.throughIndicator .right))
    ++ u8 s.settings.flashRate ++ u16 s.settings.runOnLimit
    ++ u32 (f.leftRunOn.getD 0) ++ u32 (f.rightRunOn.getD 0))

/-! ### The request commands -/

/-- SET_MAP. -/
def execSetMap (entry role first last enabled : Nat) (s : State) : Host.Outcome State Fault Refusal :=
  .next (s.serve (.setMap entry role first last enabled) (takeSetMap entry role first last enabled))

/-- READ_MAP. -/
def execReadMap (entry : Nat) (s : State) : Host.Outcome State Fault Refusal :=
  .next (s.serve (.readMap entry) (takeReadMap entry))

/-- SET_ROLE. -/
def execSetRole (role cls : Nat) (s : State) : Host.Outcome State Fault Refusal :=
  .next (s.serve (.setRole role cls) (takeSetRole role cls))

/-- SET_CHANNEL. -/
def execSetChannel (channel profile inrush pullIn hold run inrushLimit openAt substitute : Nat)
    (s : State) : Host.Outcome State Fault Refusal :=
  .next (s.serve (.setChannel channel profile inrush pullIn hold run inrushLimit openAt substitute)
    (takeSetChannel channel profile inrush pullIn hold run inrushLimit openAt substitute))

/-- READ_CHANNEL. -/
def execReadChannel (channel : Nat) (s : State) : Host.Outcome State Fault Refusal :=
  .next (s.serve (.readChannel channel) (takeReadChannel channel))

/-- CLEAR_CHANNEL. -/
def execClearChannel (channel : Nat) (s : State) : Host.Outcome State Fault Refusal :=
  .next (s.serve (.clearChannel channel) (takeClearChannel channel))

/-- SET_FLASHER. -/
def execSetFlasher (rate runOn : Nat) (s : State) : Host.Outcome State Fault Refusal :=
  .next (s.serve (.setFlasher rate runOn) (takeSetFlasher rate runOn))

/-- READ_FLASHER. -/
def execReadFlasher (s : State) : Host.Outcome State Fault Refusal :=
  .next (s.serve .readFlasher takeReadFlasher)

/-! ### The event commands -/

/-- RUN_ON_EXPIRY: a side's running timer reaches the run-on limit (R77; log 2). -/
def execRunOnExpiry (side : Side) (s : State) : Host.Outcome State Fault Refusal :=
  .next (s.whenPowered fun s => if (s.runOn side).isSome then s.cancelSide side else s)

/-- PHASE_BOUNDARY: the phase timer of a running cadence reaches the phase length (R69; log 2). -/
def execPhaseBoundary (s : State) : Host.Outcome State Fault Refusal :=
  .next (s.whenPowered fun s =>
    if s.flasher.cadence = .idle then s else (s.beginPhase s.flasher.cadence.flip).react)

/-- INRUSH_END: the activation timer of a channel in INRUSH reaches the inrush window (R48; log 2). -/
def execInrushEnd (c : Fin 16) (s : State) : Host.Outcome State Fault Refusal :=
  .next (s.whenPowered fun s =>
    if (s.channel c).state = .inrush then
      s.setChannel c ((s.channel c).settleIn .on (s.channelConfig c).inrushWindow)
    else s)

/-- PULL_IN_END: the activation timer of a channel in PULL_IN reaches the pull-in time (R50; log 2). -/
def execPullInEnd (c : Fin 16) (s : State) : Host.Outcome State Fault Refusal :=
  .next (s.whenPowered fun s =>
    if (s.channel c).state = .pullIn then
      s.setChannel c ((s.channel c).settleIn .hold (s.channelConfig c).pullIn)
    else s)

/-- The open test is suspended on every channel while the supply is in CRANK (R56). -/
def State.openTestRuns (s : State) (c : Fin 16) : Bool :=
  (s.channel c).state.tested && !(s.supply.state == .crank)

/-- A current sample of a channel: kept, then judged by the trip test, whose trip changes what the channel
carries (R36), then by the open test where it runs (R41, R53, R55, R57). -/
def State.sampleChannel (s : State) (c : Fin 16) (milliamps : Nat) : State :=
  let reading := currentReading (channelTop c) milliamps
  let x := { s.channel c with current := reading }
  if isTrip (s.channelConfig c) x.state (channelTop c) reading then ((s.setChannel c x).trip c).react
  else if s.openTestRuns c then
    s.setChannel c (x.runsAfter (s.channelConfig c).openThreshold reading)
  else s.setChannel c x

/-- CHANNEL_SAMPLE. -/
def execChannelSample (c : Fin 16) (milliamps : Nat) (s : State) : Host.Outcome State Fault Refusal :=
  .next (s.whenPowered fun s => s.sampleChannel c milliamps)

/-- The open-test time (R53, R54), in ms. -/
def openTestTime : Nat := 50

/-- LAMP_OPEN_DETECT: the running low run of a channel in ON or HOLD reaches 50 ms (R53; log 2). -/
def execLampOpenDetect (c : Fin 16) (s : State) : Host.Outcome State Fault Refusal :=
  .next (s.whenPowered fun s =>
    let x := s.channel c
    if s.openTestRuns c && x.lowRun.isSome then
      let t := s.setChannel c { x with lowRun := some openTestTime, openFlag := true }
      if x.openFlag then t else (t.raise .lampOpen c.val).react
    else s)

/-- LAMP_OPEN_CLEAR: the running high run of a channel in ON or HOLD reaches 50 ms (R54; log 2). -/
def execLampOpenClear (c : Fin 16) (s : State) : Host.Outcome State Fault Refusal :=
  .next (s.whenPowered fun s =>
    let x := s.channel c
    if s.openTestRuns c && x.highRun.isSome then
      (s.setChannel c { x with highRun := reachRun openTestTime x.highRun, openFlag := false }).react
    else s)

/-- The good-run time (R61), in ms. -/
def goodRunTime : Nat := 10000

/-- GOOD_RUN_EXPIRY: the good-run timer of a channel in ON or HOLD reaches 10 s (R61; log 2). -/
def execGoodRunExpiry (c : Fin 16) (s : State) : Host.Outcome State Fault Refusal :=
  .next (s.whenPowered fun s =>
    let x := s.channel c
    if x.state.tested then s.setChannel c { x with tripCount := 0, goodRun := max goodRunTime x.goodRun } else s)

/-- TRIP_WAIT_END: the wait timer reaches 1000 ms; the channel leaves TRIP_WAIT, and begins an activation
if it is called (R58; log 2). -/
def execTripWaitEnd (c : Fin 16) (s : State) : Host.Outcome State Fault Refusal :=
  .next (s.whenPowered fun s =>
    let x := s.channel c
    if x.state = .tripWait then (s.setChannel c (x.stopIn .off)).react else s)

end Sys2Proof.Machine
end

