-- ==== Sys2Proof/Machine/StoreCommands.lean ====
section
/-! DEFINITION. The commands of the configuration store (R151 to R159). -/

namespace Sys2Proof.Machine

/-- The working copy with a staging buffer. -/
def State.withStaging (s : State) (staging : Option Staging) : State :=
  { s with store := { s.store with staging := staging } }

/-- A staging buffer opened on a table, filled from its active points (R153). -/
def openStaging (table : Fin 8) (points : Table) (start : Nat) : Staging :=
  { table := table, pointer := start, length := points.length
    slots := vecOfFn fun i => points.getD i.val ⟨0, 0⟩ }

/-- TABLE_OPEN (R153). -/
def takeTableOpen (table start : Nat) (s : State) : State × Reply :=
  match index? 8 table with
  | none => refuse .badArg s
  | some t =>
    if 15 < start then refuse .badArg s
    else
      let b := openStaging t s.tables[t] start
      accept (s.withStaging (some b)) (u8 t.val ++ u8 b.pointer ++ u8 b.length)

/-- A point clamped into the ranges of a table: T0 to T3 are sender tables, T4 to T7 gauge tables (R97, R154). -/
def clampPoint (table : Fin 8) (x y : Nat) : Point :=
  if table.val < 4 then ⟨min x 5000, min y 1000⟩ else ⟨min x 1000, min y 16000⟩

/-- A point written at a pointer below 16, which advances (R154). -/
def Staging.put (b : Staging) (p : Point) (h : b.pointer < 16) : Staging :=
  { b with slots := b.slots.set b.pointer p h, pointer := b.pointer + 1
           length := max b.length (b.pointer + 1) }

/-- TABLE_POINT (R154). -/
def takeTablePoint (x y : Nat) (s : State) : State × Reply :=
  match s.store.staging with
  | none => refuse .notOpen s
  | some b =>
    if h : b.pointer < 16 then
      let p := clampPoint b.table x y
      let b' := b.put p h
      accept (s.withStaging (some b')) (u16 p.x ++ u16 p.y ++ u8 b'.pointer ++ u8 b'.length)
    else refuse .stageFull s

/-- The x values are strictly increasing (R155). -/
def increasing : Table → Bool
  | [] => true
  | [_] => true
  | p :: q :: rest => decide (p.x < q.x) && increasing (q :: rest)

/-- The first points of the buffer (R155). -/
def Staging.first (b : Staging) (length : Nat) : Table := b.slots.toList.take length

/-- A programming of an image begins; it fails at that same moment where the store supply condition is false (R151,
R156). -/
def State.startProgramming (s : State) (image : Image) : State := (s.beginProgramming image).storeFollow

/-- TABLE_COMMIT (R155), checked in the order of the rule. -/
def takeTableCommit (length : Nat) (s : State) : State × Reply :=
  match s.store.staging with
  | none => refuse .notOpen s
  | some b =>
    if length < 2 ∨ 16 < length ∨ b.length < length then refuse .badArg s
    else if s.store.programming.isSome then refuse .busy s
    else if !increasing (b.first length) then refuse .notMonotonic s
    else accept ((s.withStaging none).startProgramming (.table b.table (b.first length)))
      (u8 b.table.val ++ u8 length)

/-- SAVE_SETTINGS (R157): the image is the working copy as it stands. -/
def takeSaveSettings (s : State) : State × Reply :=
  if s.store.programming.isSome then refuse .busy s
  else accept (s.startProgramming (.settings s.settings)) []

/-- TABLE_READ (R158). -/
def takeTableRead (table index : Nat) (s : State) : State × Reply :=
  match index? 8 table with
  | none => refuse .badArg s
  | some t =>
    match s.tables[t][index]? with
    | none => refuse .badArg s
    | some p => accept s (u16 p.x ++ u16 p.y ++ u8 s.tables[t].length)

/-- The valid mark of each page, T0 to T7 and then S (R151, R159). -/
def Store.validMarks (st : Store) : List Bool :=
  st.tablePages.toList.map Option.isSome ++ [st.settingsPage.isSome]

/-- READ_STORE (R159). -/
def takeReadStore (s : State) : State × Reply :=
  let st := s.store
  accept s (truth st.programming.isSome ++ u8OrNone (st.programming.map fun p => p.image.page.val)
    ++ st.validMarks.flatMap truth
    ++ u8OrNone (st.failure.map fun f => f.page.val) ++ u8OrNone (st.failure.map fun f => f.cause.code)
    ++ u8OrNone (st.staging.map fun b => b.table.val) ++ u8OrNone (st.staging.map fun b => b.pointer)
    ++ u8OrNone (st.staging.map fun b => b.length))

/-! ### The commands -/

/-- TABLE_OPEN. -/
def execTableOpen (table start : Nat) (s : State) : Host.Outcome State Fault Refusal :=
  .next (s.serve (.tableOpen table start) (takeTableOpen table start))

/-- TABLE_POINT. -/
def execTablePoint (x y : Nat) (s : State) : Host.Outcome State Fault Refusal :=
  .next (s.serve (.tablePoint x y) (takeTablePoint x y))

/-- TABLE_COMMIT. -/
def execTableCommit (length : Nat) (s : State) : Host.Outcome State Fault Refusal :=
  .next (s.serve (.tableCommit length) (takeTableCommit length))

/-- TABLE_READ. -/
def execTableRead (table index : Nat) (s : State) : Host.Outcome State Fault Refusal :=
  .next (s.serve (.tableRead table index) (takeTableRead table index))

/-- SAVE_SETTINGS. -/
def execSaveSettings (s : State) : Host.Outcome State Fault Refusal :=
  .next (s.serve .saveSettings takeSaveSettings)

/-- READ_STORE. -/
def execReadStore (s : State) : Host.Outcome State Fault Refusal :=
  .next (s.serve .readStore takeReadStore)

/-- PROGRAMMING_COMPLETE: the programming time of the page in flight has passed; the read-back agrees or does
not, and a store supply condition that is false has cut the programming short (R156; log 22). -/
def execProgrammingComplete (agrees : Bool) (s : State) : Host.Outcome State Fault Refusal :=
  .next (s.whenPowered fun s =>
    match s.store.programming with
    | none => s
    | some p =>
      if !s.storeCondition then s.failProgramming p.image .lowSupply
      else if agrees then s.finishProgramming p.image
      else s.failProgramming p.image .verify)

end Sys2Proof.Machine
end

