-- ==== Sys2Proof/Machine/SupplyCommands.lean ====
section
/-! DEFINITION. The commands of the supply watch (R133 to R148). -/

namespace Sys2Proof.Machine

/-- A threshold sent as 0 takes the class's default; any other is clamped into its range (R138). -/
def thresholdOf (default low high sent : Nat) : Nat := if sent = 0 then default else clamp low high sent

/-- The budget taken: 0, or brought into 5000 to 60,000 mA (R138). -/
def budgetOf (sent : Nat) : Nat := if sent = 0 then 0 else clamp 5000 60000 sent

/-- The settings a SET_SUPPLY asks for, after step 3 of R138 (ranges of R137). -/
def supplyConfigOf (cls : SystemClass)
    (lean shed crankEnter crankExit hysteresis chargeMargin storeMinimum budget : Nat) : SupplyConfig :=
  let d := classDefaults cls
  { cls := cls
    lean := thresholdOf d.lean 4000 16000 lean
    shed := thresholdOf d.shed 4000 16000 shed
    crankEnter := thresholdOf d.crankEnter 4500 14000 crankEnter
    crankExit := thresholdOf d.crankExit 4500 14000 crankExit
    hysteresis := thresholdOf d.hysteresis 10 2000 hysteresis
    chargeMargin := thresholdOf d.chargeMargin 100 3000 chargeMargin
    storeMinimum := thresholdOf d.storeMinimum 4500 14000 storeMinimum
    budget := budgetOf budget }

/-- The ordering check of step 4 of R138. -/
def SupplyConfig.ordered (cfg : SupplyConfig) : Bool :=
  decide (cfg.shed < cfg.lean) && decide (cfg.crankEnter < cfg.crankExit)

/-- The settings as a reply carries them, 17 bytes (R176). -/
def supplyConfigBytes (cfg : SupplyConfig) : List Byte :=
  u8 cfg.cls.code ++ u16 cfg.lean ++ u16 cfg.shed ++ u16 cfg.crankEnter ++ u16 cfg.crankExit
    ++ u16 cfg.hysteresis ++ u16 cfg.chargeMargin ++ u16 cfg.storeMinimum ++ u16 cfg.budget

/-- The working copy with the supply settings; the store supply condition and the charge condition take them up
at once (R138). -/
def State.changeSupply (s : State) (cfg : SupplyConfig) : State :=
  ({ s with settings := { s.settings with supply := cfg } } : State).react

/-- SET_SUPPLY (R138). -/
def takeSetSupply (cls lean shed crankEnter crankExit hysteresis chargeMargin storeMinimum budget : Nat)
    (s : State) : State × Reply :=
  match systemClass? cls with
  | none => refuse .badArg s
  | some c =>
    let cfg := supplyConfigOf c lean shed crankEnter crankExit hysteresis chargeMargin storeMinimum budget
    if cfg.ordered then accept (s.changeSupply cfg) (supplyConfigBytes cfg) else refuse .badArg s

/-- The seven timers in the order of R135, as a reply carries them (R176). -/
def SupplyTimers.bytes (t : SupplyTimers) : List Byte :=
  u16 t.lean.elapsed ++ u16 t.budget.elapsed ++ u16 t.recovery.elapsed ++ u16 t.shed.elapsed
    ++ u16 t.unshed.elapsed ++ u16 t.crankExit.elapsed ++ u16 t.crankLimit.elapsed

/-- The reply of READ_SUPPLY (R148). -/
def State.supplyBytes (s : State) : List Byte :=
  let p := s.supply
  u8 p.state.code ++ truth p.batMean.isSome ++ u16 (p.batMean.getD 0) ++ u16 (p.dynMean.getD 0)
    ++ u32 p.totalLoad ++ truth p.charge ++ truth s.storeCondition ++ truth p.armed ++ p.timers.bytes
    ++ truth p.lowSeen ++ u16OrNone p.minBat ++ supplyConfigBytes s.settings.supply

/-- READ_SUPPLY (R147, R148): the marks are cleared once the reply has been formed, where the clear option is
yes. -/
def takeReadSupply (clear : Nat) (s : State) : State × Reply :=
  match truth? clear with
  | none => refuse .badArg s
  | some c =>
    accept (if c then { s with supply := { s.supply with lowSeen := false, minBat := s.supply.batMean } }
      else s) s.supplyBytes

/-! ### The commands -/

/-- SET_SUPPLY. -/
def execSetSupply (cls lean shed crankEnter crankExit hysteresis chargeMargin storeMinimum budget : Nat)
    (s : State) : Host.Outcome State Fault Refusal :=
  .next (s.serve
    (.setSupply cls lean shed crankEnter crankExit hysteresis chargeMargin storeMinimum budget)
    (takeSetSupply cls lean shed crankEnter crankExit hysteresis chargeMargin storeMinimum budget))

/-- READ_SUPPLY. -/
def execReadSupply (clear : Nat) (s : State) : Host.Outcome State Fault Refusal :=
  .next (s.serve (.readSupply clear) (takeReadSupply clear))

/-- SAMPLE_SLOT (R144); what the slot leaves reaches the other blocks at that slot. -/
def execSampleSlot (bat dyn : Nat) (s : State) : Host.Outcome State Fault Refusal :=
  .next (s.whenPowered fun s => (s.judgeSlot bat dyn).react)

/-- A started supply timer of the state it runs in reaches its delay, and its transition is taken (R135, R140
to R143; log 23). -/
def State.expireTimer (s : State) (runsIn : Bool) (timer : SupplyTimer) (next : SupplyState)
    (armed : Bool) : State :=
  s.whenPowered fun s => if runsIn && timer.started then (s.moveSupply next armed).react else s

/-- LEAN_TIMER_EXPIRY: to LEAN (R140). -/
def execLeanTimerExpiry (s : State) : Host.Outcome State Fault Refusal :=
  .next (s.expireTimer (s.supply.state == .normal) s.supply.timers.lean .lean true)

/-- BUDGET_TIMER_EXPIRY: to LEAN (R140). -/
def execBudgetTimerExpiry (s : State) : Host.Outcome State Fault Refusal :=
  .next (s.expireTimer (s.supply.state == .normal) s.supply.timers.budget .lean true)

/-- RECOVERY_TIMER_EXPIRY: to NORMAL (R140). -/
def execRecoveryTimerExpiry (s : State) : Host.Outcome State Fault Refusal :=
  .next (s.expireTimer (s.supply.state == .lean) s.supply.timers.recovery .normal true)

/-- SHED_TIMER_EXPIRY: to SHED, armed from its entry (R141, R142). -/
def execShedTimerExpiry (s : State) : Host.Outcome State Fault Refusal :=
  .next (s.expireTimer (s.supply.state == .normal || s.supply.state == .lean) s.supply.timers.shed
    .shed true)

/-- UNSHED_TIMER_EXPIRY: to LEAN (R141). -/
def execUnshedTimerExpiry (s : State) : Host.Outcome State Fault Refusal :=
  .next (s.expireTimer (s.supply.state == .shed) s.supply.timers.unshed .lean true)

/-- CRANK_EXIT_TIMER_EXPIRY: to NORMAL (R143). -/
def execCrankExitTimerExpiry (s : State) : Host.Outcome State Fault Refusal :=
  .next (s.expireTimer (s.supply.state == .crank) s.supply.timers.crankExit .normal true)

/-- CRANK_LIMIT_TIMER_EXPIRY: to SHED, with CRANK entry unarmed (R142, R143). -/
def execCrankLimitTimerExpiry (s : State) : Host.Outcome State Fault Refusal :=
  .next (s.expireTimer (s.supply.state == .crank) s.supply.timers.crankLimit .shed false)

end Sys2Proof.Machine
end

