-- ==== Sys2Proof/Machine/LinkCommands.lean ====
section
/-! DEFINITION. The commands of the serial link: the requests of the link block (R164 to R172), the receiver (R161),
serving and pending (R162), and the transmitter. -/

namespace Sys2Proof.Machine

/-! ### Requests of the link block -/

/-- HELLO (R164): part code 0x0416, revision A, store format 1, class (R176). -/
def takeHello (s : State) : State × Reply :=
  accept s (u16 0x0416 ++ u8 0x41 ++ u8 1 ++ u8 s.settings.supply.cls.code)

/-- RESTART (R165): BUSY while a programming is in flight; otherwise the restart is to follow the reply. -/
def takeRestart (s : State) : State × Reply :=
  if s.store.programming.isSome then refuse .busy s else accept { s with restarting := true } []

/-- READ_EVENTS (R171): every set flag with its detail, in order; exactly those flags are cleared. -/
def takeReadEvents (s : State) : State × Reply :=
  accept s.clearFlags (s.setFlags.flatMap fun e => u8 e.val ++ u8 s.events[e].detail)

/-- SET_EVENT (R172). -/
def takeSetEvent (event enable level : Nat) (s : State) : State × Reply :=
  match index? 16 event, truth? enable with
  | some e, some on =>
    accept { s with settings := { s.settings with events := s.settings.events.set e ⟨on, min level 7⟩ } }
      (u8 e.val ++ truth on ++ u8 (min level 7))
  | _, _ => refuse .badArg s

/-- SET_ATTN_LEVEL (R172). -/
def takeSetAttnLevel (threshold : Nat) (s : State) : State × Reply :=
  accept { s with settings := { s.settings with attnThreshold := min threshold 7 } }
    (u8 (min threshold 7))

/-- The link timeout taken: 0, or brought into 500 to 10,000 ms (R166). -/
def linkTimeoutOf (sent : Nat) : Nat := if sent = 0 then 0 else clamp 500 10000 sent

/-- SET_LINK_TIMEOUT (R166): the request's own frame has already restarted the timer. -/
def takeSetLinkTimeout (timeout : Nat) (s : State) : State × Reply :=
  accept { s with settings := { s.settings with linkTimeout := linkTimeoutOf timeout } }
    (u16 (linkTimeoutOf timeout))

/-! ### Taking the request of a served frame -/

/-- What the request of a command does when its frame is taken; none for a row that is no request. -/
def takeRequest : Instr → Option (State → State × Reply)
  | .hello => some takeHello
  | .restart => some takeRestart
  | .readEvents => some takeReadEvents
  | .setEvent e en l => some (takeSetEvent e en l)
  | .setAttnLevel t => some (takeSetAttnLevel t)
  | .setLinkTimeout t => some (takeSetLinkTimeout t)
  | .readDemand f r => some (takeReadDemand f r)
  | .setDemand f v => some (takeSetDemand f v)
  | .setDemandIf f v => some (takeSetDemandIf f v)
  | .releaseDemand f => some (takeReleaseDemand f)
  | .setFunction f m => some (takeSetFunction f m)
  | .setInput i f a l p d => some (takeSetInput i f a l p d)
  | .readInputs i => some (takeReadInputs i)
  | .setMap e r f l en => some (takeSetMap e r f l en)
  | .readMap e => some (takeReadMap e)
  | .setRole r c => some (takeSetRole r c)
  | .setChannel c p i q h r m o b => some (takeSetChannel c p i q h r m o b)
  | .readChannel c => some (takeReadChannel c)
  | .clearChannel c => some (takeClearChannel c)
  | .setFlasher r l => some (takeSetFlasher r l)
  | .readFlasher => some takeReadFlasher
  | .setGauge g b l k p => some (takeSetGauge g b l k p)
  | .readGauge g c => some (takeReadGauge g c)
  | .setGaugePosition g p => some (takeSetGaugePosition g p)
  | .setSender n a b => some (takeSetSender n a b)
  | .readSender n => some (takeReadSender n)
  | .setFan a b c d r w l i => some (takeSetFan a b c d r w l i)
  | .readFan => some takeReadFan
  | .setSupply c l d e x h m t b => some (takeSetSupply c l d e x h m t b)
  | .readSupply c => some (takeReadSupply c)
  | .tableOpen t i => some (takeTableOpen t i)
  | .tablePoint x y => some (takeTablePoint x y)
  | .tableCommit l => some (takeTableCommit l)
  | .tableRead t i => some (takeTableRead t i)
  | .saveSettings => some takeSaveSettings
  | .readStore => some takeReadStore
  | .powerOnReset | .partRestart | .frameReceived _ | .frameBadLength _ | .frameGapTimeout
  | .replySent | .unknownKindRequest _ | .programmingComplete _ | .limpEntry | .switchRawChange _ _
  | .debounceExpiry _ | .runOnExpiry _ | .phaseBoundary | .inrushEnd _ | .pullInEnd _
  | .channelSample _ _ | .lampOpenDetect _ | .lampOpenClear _ | .goodRunExpiry _ | .tripWaitEnd _
  | .senderSample _ _ | .gaugeUpdate _ | .driverSample _ _ | .driverWaitEnd _ | .settleWindowEnd
  | .fanRampStep | .fanSample _ | .fanStall | .stallWaitEnd | .fanOpenDetect | .fanOpenClear
  | .sampleSlot _ _ | .leanTimerExpiry | .budgetTimerExpiry | .recoveryTimerExpiry
  | .shedTimerExpiry | .unshedTimerExpiry | .crankExitTimerExpiry | .crankLimitTimerExpiry
  | .powerLoss | .byteReceived _ => none

/-- A served frame is taken: UNKNOWN_KIND, BAD_LENGTH, or its request (R163, R174). -/
def takeFrame (frame : Frame) (s : State) : State × Reply :=
  match frame.asks with
  | .unknownKind => refuse .unknownKind s
  | .badLength => refuse .badLength s
  | .request i =>
    match takeRequest i with
    | some take => take s
    | none => refuse .unknownKind s

/-! ### The receiver -/

/-- The link block with its receiver in a state, the gap counted from this byte (R161); while it hunts the count stands at 0
(DESIGN CHOICE, unsafe, log 42). -/
def State.receive (s : State) (r : Receiver) : State :=
  { s with link := { s.link with receiver := r, gap := 0 } }

/-- Whether a FRAME_ERROR waits to be sent (R161, log 15). -/
def Outgoing.isError : Outgoing → Bool
  | .frameError _ => true
  | .reply _ | .awaited => false

/-- A FRAME_ERROR is queued unless one already waits (R161). -/
def State.queueError (s : State) (status : Status) : State :=
  if s.link.outbox.any Outgoing.isError then s
  else { s with link := { s.link with outbox := s.link.outbox ++ [.frameError status] } }

/-- The CHK byte of a collected frame: the sum of LEN, KIND, payload and CHK is judged (R160, R161). -/
def State.checkFrame (s : State) (len : Byte) (frame : Frame) (chk : Byte) : State :=
  let t := s.receive .hunting
  if len + frame.kind + byteSum frame.payload + chk = 0 then t.handOn frame (takeFrame frame) else t.queueError .badCheck

/-- The greatest LEN (R160). -/
def maxLen : Nat := 48

/-- A LEN above 48: BAD_LENGTH, and the receiver hunts from the next byte (R161). -/
def State.refuseLength (s : State) : State := (s.receive .hunting).queueError .badLength

/-- What the receiver waits for after KIND or a payload byte: another payload byte, or CHK (R160). -/
def collected (len kind : Byte) (payload : List Byte) : Receiver :=
  if payload.length = len.toNat then .wantCheck len ⟨kind, payload⟩ else .wantPayload len kind payload

/-- A byte arrives on RXD, whatever the receiver waits for (R161). -/
def State.receiveByte (s : State) (b : Byte) : State :=
  match s.link.receiver with
  | .hunting => if b = 0xC5 then s.receive .wantLen else s
  | .wantLen => if maxLen < b.toNat then s.refuseLength else s.receive (.wantKind b)
  | .wantKind len => s.receive (collected len b [])
  | .wantPayload len kind taken => s.receive (collected len kind (taken ++ [b]))
  | .wantCheck len frame => s.checkFrame len frame b

/-! ### The transmitter -/

/-- The first outgoing place that has something to send, taken out: what is sent, and what is left (log 16). -/
def sendFirst : List Outgoing → Option (Outgoing × List Outgoing)
  | [] => none
  | .awaited :: rest => (sendFirst rest).map fun r => (r.1, .awaited :: r.2)
  | o :: rest => some (o, rest)

/-- Whether a place holds the reply to a request. -/
def Outgoing.isReply : Outgoing → Bool
  | .reply _ => true
  | .frameError _ | .awaited => false

/-- The served frame's reply has left: the pending frame, if there is one, becomes the served frame and its request
is taken (R162, R163), unless a restart is to come (R165). -/
def State.serveNext (s : State) : State :=
  let t : State := { s with link := { s.link with served := none } }
  match s.link.pendingFrame with
  | some frame =>
    if s.restarting then t
    else ({ t with link := { t.link with pendingFrame := none } } : State).answer frame (takeFrame frame)
      fillAwaited
  | none => t

/-- The last byte of the reply at the front leaves; when it was the reply to the served frame, the served place is free
(R162). -/
def State.sendReply (s : State) : State :=
  match sendFirst s.link.outbox with
  | none => s
  | some (sent, rest) =>
    let t : State := { s with link := { s.link with outbox := rest } }
    if sent.isReply then t.serveNext else t

/-! ### The commands -/

/-- FRAME_RECEIVED: the CHK byte of a collected frame arrives (R161, R162). -/
def execFrameReceived (chk : Byte) (s : State) : Host.Outcome State Fault Refusal :=
  .next (s.whenPowered fun s =>
    match s.link.receiver with
    | .wantCheck len frame => s.checkFrame len frame chk
    | .hunting | .wantLen | .wantKind _ | .wantPayload _ _ _ => s)

/-- FRAME_BAD_LENGTH: a LEN byte above 48 arrives where LEN is due (R161). -/
def execFrameBadLength (len : Byte) (s : State) : Host.Outcome State Fault Refusal :=
  .next (s.whenPowered fun s =>
    if s.link.receiver = .wantLen ∧ maxLen < len.toNat then s.refuseLength else s)

/-- FRAME_GAP_TIMEOUT: more than 5 ms passes inside a frame; the partial frame is discarded (R161; log 2). -/
def execFrameGapTimeout (s : State) : Host.Outcome State Fault Refusal :=
  .next (s.whenPowered fun s => s.receive .hunting)

/-- REPLY_SENT: the last byte of a reply leaves the transmitter (R162). -/
def execReplySent (s : State) : Host.Outcome State Fault Refusal :=
  .next (s.whenPowered State.sendReply)

/-- BYTE_RECEIVED (R161; log 25). -/
def execByteReceived (b : Byte) (s : State) : Host.Outcome State Fault Refusal :=
  .next (s.whenPowered fun s => s.receiveByte b)

/-- UNKNOWN_KIND_REQUEST: a frame of a KIND that no request has arrives (R174; log 3). A KIND that a request
has is not this command's, and nothing happens. -/
def execUnknownKindRequest (kind : Byte) (s : State) : Host.Outcome State Fault Refusal :=
  .next (s.whenPowered fun s =>
    if (requestLength kind).isSome then s else s.handOn ⟨kind, []⟩ (refuse .unknownKind))

/-- HELLO. -/
def execHello (s : State) : Host.Outcome State Fault Refusal := .next (s.serve .hello takeHello)

/-- RESTART. -/
def execRestart (s : State) : Host.Outcome State Fault Refusal := .next (s.serve .restart takeRestart)

/-- READ_EVENTS. -/
def execReadEvents (s : State) : Host.Outcome State Fault Refusal :=
  .next (s.serve .readEvents takeReadEvents)

/-- SET_EVENT. -/
def execSetEvent (event enable level : Nat) (s : State) : Host.Outcome State Fault Refusal :=
  .next (s.serve (.setEvent event enable level) (takeSetEvent event enable level))

/-- SET_ATTN_LEVEL. -/
def execSetAttnLevel (threshold : Nat) (s : State) : Host.Outcome State Fault Refusal :=
  .next (s.serve (.setAttnLevel threshold) (takeSetAttnLevel threshold))

/-- SET_LINK_TIMEOUT. -/
def execSetLinkTimeout (timeout : Nat) (s : State) : Host.Outcome State Fault Refusal :=
  .next (s.serve (.setLinkTimeout timeout) (takeSetLinkTimeout timeout))

end Sys2Proof.Machine
end

