-- ==== Sys2Proof/Machine/PowerCommands.lean ====
section
/-! DEFINITION. Power-on reset, RESTART's restart and the loss of power (R149, R152, R165, and each block's
start-up rule). -/

namespace Sys2Proof.Machine

/-- The part starts afresh from its pages: every record in every block (R21, R39, R64, R82, R93, R117, R132,
R149, R152, R173). The pins stay as they are held, and the queue of commands is not the part's. -/
def State.startUp (s : State) (restartedDetail : Nat) : State :=
  let settings := s.store.settingsPage.getD factorySettings
  { pending := s.pending
    powered := true
    restarting := false
    inputs := vecOfFn fun i => startInput (s.inputs[i]).contact
    functions := vecOfFn fun i => startFunction settings (Fn.ofIdx i)
    reservation := none
    flasher := startFlasher
    channels := Vector.replicate 16 startChannel
    senders := Vector.replicate 4 startSender
    gauges := Vector.replicate 4 startGauge
    fan := startFan
    supply := startSupply
    store := startStore s.store.tablePages s.store.settingsPage
    link := startLink
    events := startEvents (lastInvalidPage s.store.tablePages s.store.settingsPage) restartedDetail
    settings := settings
    tables := startTables s.store.tablePages
    clockActs := s.clockActs }

/-- The part held in power-on reset (R149): no output conducts, a programming in flight is cut short, with its
page invalid since it began (R151). Pins and pages stay; the working state is kept at its start values, with
no event set (DESIGN CHOICE, unsafe, log 10). -/
def State.hold (s : State) : State :=
  { s.startUp 0 with
    powered := false
    store := { startStore s.store.tablePages s.store.settingsPage with failure := none }
    events := Vector.replicate 16 clearEvent }

/-- POWER_ON_RESET: BAT rises through 4500 mV (R149). Taken while the part runs it stands for a fall below
4500 mV and the rise (log 11). -/
def execPowerOnReset (s : State) : Host.Outcome State Fault Refusal := .next (s.startUp 0)

/-- PART_RESTART: the last byte of an accepted RESTART's reply has left (R165; log 12). -/
def execPartRestart (s : State) : Host.Outcome State Fault Refusal :=
  .next (s.whenPowered fun s => if s.restarting then s.startUp 1 else s)

/-- POWER_LOSS: BAT falls below 4500 mV (R149). -/
def execPowerLoss (s : State) : Host.Outcome State Fault Refusal := .next (s.whenPowered State.hold)

end Sys2Proof.Machine
end

