-- ==== Sys2Proof/Machine/Clock.lean ====
section
/-! DEFINITION. The part's own clock, which acts when no command waits (log 1): one millisecond for every timer that
runs, and the command that a timer which has reached its figure brings about, in one fixed order (log 19). -/

namespace Sys2Proof.Machine

/-! ### One millisecond -/

/-- A run or timer that may be stopped gains a millisecond while it goes. -/
def tickRun (run : Option Nat) : Option Nat := run.map (· + 1)

/-- An input's debounce count (R2). -/
def Input.tick (x : Input) : Input := { x with count := x.count + 1 }

/-- The phase timer and the run-on timers (R67, R76). -/
def Flasher.tick (f : Flasher) : Flasher :=
  { f with
    phaseTimer := if f.cadence = .idle then f.phaseTimer else f.phaseTimer + 1
    leftRunOn := tickRun f.leftRunOn
    rightRunOn := tickRun f.rightRunOn }

/-- The trip wait (R58), in ms. -/
def tripWaitTime : Nat := 1000

/-- A channel's timers: the activation timer while it conducts, the good-run timer and, outside CRANK, the
open-test runs in ON and HOLD, the wait timer in TRIP_WAIT (R45, R53, R56, R61). A low run that has reached its figure
stays there (R53). -/
def Channel.tick (x : Channel) (crank : Bool) : Channel :=
  { x with
    activation := if x.state.conducting then x.activation + 1 else x.activation
    goodRun := if x.state.tested then x.goodRun + 1 else x.goodRun
    lowRun := if x.state.tested && !crank then (tickRun x.lowRun).map (min openTestTime) else x.lowRun
    highRun := if x.state.tested && !crank then tickRun x.highRun else x.highRun
    wait := if x.state = .tripWait then x.wait + 1 else x.wait }

/-- The time since a gauge's update, and its driver's wait (R96, R111). -/
def Gauge.tick (g : Gauge) : Gauge :=
  { g with
    sinceUpdate := g.sinceUpdate + 1
    driverWait := if g.driver = .waiting then g.driverWait + 1 else g.driverWait }

/-- The stall time (R125), in ms. -/
def stallTime : Nat := 2000

/-- The stall wait (R127), in ms. -/
def stallWaitTime : Nat := 10000

/-- The fan's timers: the settle timer, the ramp timer in RAMP, the stall run outside CRANK and the open-test
runs while it conducts, the wait timer in STALL_WAIT (R120, R130). -/
def Fan.tick (f : Fan) (crank : Bool) : Fan :=
  { f with
    settle := tickRun f.settle
    rampTimer := if f.state = .ramp then f.rampTimer + 1 else f.rampTimer
    stallRun := if f.state.conducting && !crank then tickRun f.stallRun else f.stallRun
    lowRun := if f.state.conducting then tickRun f.lowRun else f.lowRun
    highRun := if f.state.conducting then tickRun f.highRun else f.highRun
    waitTimer := if f.state = .stallWait then f.waitTimer + 1 else f.waitTimer }

/-- The time since a programming began (R151). -/
def Programming.tick (p : Programming) : Programming := { p with elapsed := p.elapsed + 1 }

/-- The link timer runs outside LIMP while the timeout is not 0 (R166). -/
def State.linkTimerRuns (s : State) : Bool := !s.link.limp && !(s.settings.linkTimeout == 0)

/-- The link timer, and the gap inside a frame that is being collected (R161, R166). Stopped, the link timer keeps its
figure, and so does the gap count while hunting (DESIGN CHOICE, unsafe, logs 41 and 42). -/
def State.tickLink (s : State) : Link :=
  { s.link with
    timer := if s.linkTimerRuns then s.link.timer + 1 else s.link.timer
    gap := if s.link.receiver = .hunting then s.link.gap else s.link.gap + 1 }

/-- One millisecond passes in a running part: every timer that runs gains it, and nothing else changes. In a part
held in power-on reset no timer runs (log 10). -/
def State.tick (s : State) : State :=
  s.whenPowered fun s =>
    { s with
      inputs := vecOfFn fun i => (s.input i).tick
      flasher := s.flasher.tick
      channels := vecOfFn fun c => (s.channel c).tick (s.supply.state == .crank)
      gauges := vecOfFn fun g => (s.gauge g).tick
      fan := s.fan.tick (s.supply.state == .crank)
      store := { s.store with programming := s.store.programming.map Programming.tick }
      link := s.tickLink }

/-! ### What is due -/

/-- A run or timer that is not stopped has reached a figure. -/
def reached (figure : Nat) (run : Option Nat) : Bool :=
  match run with
  | some t => decide (figure ≤ t)
  | none => false

/-- The command, where the condition holds. -/
def onlyIf (condition : Bool) (c : Instr) : List Instr := if condition then [c] else []

/-- More than 5 ms inside a frame (R161): the sixth millisecond (log 24). -/
def gapTime : Nat := 6

/-- What is due on the link and in the store: the restart once the reply has left (R165), the gap (R161), LIMP entry
(R166), the end of a programming time, its read-back a free value (R156, log 22). -/
def State.dueLink (s : State) : List Instr :=
  onlyIf (s.restarting && !s.link.outbox.any Outgoing.isReply) .partRestart
    ++ onlyIf (!(s.link.receiver == .hunting) && decide (gapTime ≤ s.link.gap)) .frameGapTimeout
    ++ onlyIf (s.linkTimerRuns && decide (s.settings.linkTimeout ≤ s.link.timer)) .limpEntry
    ++ match s.store.programming with
      | some p => onlyIf (decide (p.image.programmingTime ≤ p.elapsed))
          (.programmingComplete (Config.readBackAgrees s.clockActs))
      | none => []

/-- What is due at an input: its count has reached the debounce time and its debounced state does not hold the raw
level (R2). -/
def State.dueInput (s : State) (i : Fin 12) : List Instr :=
  onlyIf (decide ((s.binding i).debounce ≤ (s.input i).count)
      && !((s.input i).debounced == settledState (s.raw i)))
    (.debounceExpiry i)

/-- What is due in the flasher (R69, R77). -/
def State.dueFlasher (s : State) : List Instr :=
  let limit := s.settings.runOnLimit
  onlyIf (!(limit == 0) && reached (limit * 1000) s.flasher.leftRunOn) (.runOnExpiry .left)
    ++ onlyIf (!(limit == 0) && reached (limit * 1000) s.flasher.rightRunOn) (.runOnExpiry .right)
    ++ onlyIf (!(s.flasher.cadence == .idle) && decide (s.flasher.phaseLength ≤ s.flasher.phaseTimer))
      .phaseBoundary

/-- What is due at a channel (R48, R50, R53, R54, R58, R61). -/
def State.dueChannel (s : State) (c : Fin 16) : List Instr :=
  let x := s.channel c
  let cfg := s.channelConfig c
  onlyIf (x.state == .inrush && decide (cfg.inrushWindow ≤ x.activation)) (.inrushEnd c)
    ++ onlyIf (x.state == .pullIn && decide (cfg.pullIn ≤ x.activation)) (.pullInEnd c)
    ++ onlyIf (s.openTestRuns c && reached openTestTime x.lowRun && !x.openFlag) (.lampOpenDetect c)
    ++ onlyIf (s.openTestRuns c && reached openTestTime x.highRun && x.openFlag) (.lampOpenClear c)
    ++ onlyIf (x.state.tested && decide (goodRunTime ≤ x.goodRun) && !(x.tripCount == 0))
      (.goodRunExpiry c)
    ++ onlyIf (x.state == .tripWait && decide (tripWaitTime ≤ x.wait)) (.tripWaitEnd c)

/-- The gauge update period (R96), in ms. -/
def gaugePeriod : Nat := 100

/-- A driver's wait (R111), in ms. -/
def driverWaitTime : Nat := 1000

/-- What is due at a gauge (R96, R111). -/
def State.dueGauge (s : State) (g : Fin 4) : List Instr :=
  let x := s.gauge g
  onlyIf (x.driver == .waiting && decide (driverWaitTime ≤ x.driverWait)) (.driverWaitEnd g)
    ++ onlyIf (decide (gaugePeriod ≤ x.sinceUpdate)) (.gaugeUpdate g)

/-- What is due at the fan (R122, R124, R125, R127, R129): a ramp step at the ramp timer's next multiple of 100 ms. -/
def State.dueFan (s : State) : List Instr :=
  let f := s.fan
  onlyIf (reached s.settings.fan.settleWindow f.settle) .settleWindowEnd
    ++ onlyIf (f.state == .ramp && decide (rampTime * (f.rampSteps + 1) ≤ f.rampTimer)) .fanRampStep
    ++ onlyIf (f.state.conducting && !(s.supply.state == .crank) && reached stallTime f.stallRun) .fanStall
    ++ onlyIf (f.state == .stallWait && decide (stallWaitTime ≤ f.waitTimer)) .stallWaitEnd
    ++ onlyIf (f.state.conducting && reached fanOpenTestTime f.lowRun && !f.openFlag) .fanOpenDetect
    ++ onlyIf (f.state.conducting && reached fanOpenTestTime f.highRun && f.openFlag) .fanOpenClear

/-- Everything that is due, in the order in which the model takes it (DESIGN CHOICE, log 19): the link and the store,
the inputs, the flasher, the channels, the gauges, the fan. A part held in power-on reset has nothing due. -/
def State.allDue (s : State) : List Instr :=
  if s.powered then
    s.dueLink ++ (List.finRange 12).flatMap s.dueInput ++ s.dueFlasher
      ++ (List.finRange 16).flatMap s.dueChannel ++ (List.finRange 4).flatMap s.dueGauge ++ s.dueFan
  else []

/-- The command that the part's own timers bring about next, if any. -/
def State.due (s : State) : Option Instr := s.allDue.head?

/-- The clock issues a command: the count that picks free values goes on (log 22). -/
def State.clockActed (s : State) : State := { s with clockActs := s.clockActs + 1 }

end Sys2Proof.Machine
end

