-- ==== Sys2Proof/Machine/Dispatch.lean ====
section
/-! DEFINITION. The meaning of every command: one arm for each constructor of Instr. -/

namespace Sys2Proof.Machine

/-- What a command does to everything but the queue. -/
def exec (i : Instr) (s : State) : Host.Outcome State Fault Refusal :=
  match i with
  | .powerOnReset => Sys2Proof.Machine.execPowerOnReset s
  | .partRestart => Sys2Proof.Machine.execPartRestart s
  | .frameReceived chk => Sys2Proof.Machine.execFrameReceived chk s
  | .frameBadLength len => Sys2Proof.Machine.execFrameBadLength len s
  | .frameGapTimeout => Sys2Proof.Machine.execFrameGapTimeout s
  | .replySent => Sys2Proof.Machine.execReplySent s
  | .unknownKindRequest kind => Sys2Proof.Machine.execUnknownKindRequest kind s
  | .hello => Sys2Proof.Machine.execHello s
  | .restart => Sys2Proof.Machine.execRestart s
  | .readEvents => Sys2Proof.Machine.execReadEvents s
  | .setEvent event enable level => Sys2Proof.Machine.execSetEvent event enable level s
  | .setAttnLevel threshold => Sys2Proof.Machine.execSetAttnLevel threshold s
  | .setLinkTimeout timeout => Sys2Proof.Machine.execSetLinkTimeout timeout s
  | .readDemand function reserve => Sys2Proof.Machine.execReadDemand function reserve s
  | .setDemand function value => Sys2Proof.Machine.execSetDemand function value s
  | .setDemandIf function value => Sys2Proof.Machine.execSetDemandIf function value s
  | .releaseDemand function => Sys2Proof.Machine.execReleaseDemand function s
  | .setFunction function mode => Sys2Proof.Machine.execSetFunction function mode s
  | .setInput input function action level polarity debounce => Sys2Proof.Machine.execSetInput input function action level polarity debounce s
  | .readInputs input => Sys2Proof.Machine.execReadInputs input s
  | .setMap entry role first last enabled => Sys2Proof.Machine.execSetMap entry role first last enabled s
  | .readMap entry => Sys2Proof.Machine.execReadMap entry s
  | .setRole role cls => Sys2Proof.Machine.execSetRole role cls s
  | .setChannel channel profile inrush pullIn hold run inrushLimit openThreshold substitute => Sys2Proof.Machine.execSetChannel channel profile inrush pullIn hold run inrushLimit openThreshold substitute s
  | .readChannel channel => Sys2Proof.Machine.execReadChannel channel s
  | .clearChannel channel => Sys2Proof.Machine.execClearChannel channel s
  | .setFlasher rate runOn => Sys2Proof.Machine.execSetFlasher rate runOn s
  | .readFlasher => Sys2Proof.Machine.execReadFlasher s
  | .setGauge gauge binding law k policy => Sys2Proof.Machine.execSetGauge gauge binding law k policy s
  | .readGauge gauge clear => Sys2Proof.Machine.execReadGauge gauge clear s
  | .setGaugePosition gauge position => Sys2Proof.Machine.execSetGaugePosition gauge position s
  | .setSender sender short openAt => Sys2Proof.Machine.execSetSender sender short openAt s
  | .readSender sender => Sys2Proof.Machine.execReadSender sender s
  | .setFan duty0 duty1 duty2 duty3 ramp settle stall ignitionFed => Sys2Proof.Machine.execSetFan duty0 duty1 duty2 duty3 ramp settle stall ignitionFed s
  | .readFan => Sys2Proof.Machine.execReadFan s
  | .setSupply cls lean shed crankEnter crankExit hysteresis chargeMargin storeMinimum budget => Sys2Proof.Machine.execSetSupply cls lean shed crankEnter crankExit hysteresis chargeMargin storeMinimum budget s
  | .readSupply clear => Sys2Proof.Machine.execReadSupply clear s
  | .tableOpen table start => Sys2Proof.Machine.execTableOpen table start s
  | .tablePoint x y => Sys2Proof.Machine.execTablePoint x y s
  | .tableCommit length => Sys2Proof.Machine.execTableCommit length s
  | .tableRead table index => Sys2Proof.Machine.execTableRead table index s
  | .saveSettings => Sys2Proof.Machine.execSaveSettings s
  | .readStore => Sys2Proof.Machine.execReadStore s
  | .programmingComplete agrees => Sys2Proof.Machine.execProgrammingComplete agrees s
  | .limpEntry => Sys2Proof.Machine.execLimpEntry s
  | .switchRawChange input contact => Sys2Proof.Machine.execSwitchRawChange input contact s
  | .debounceExpiry input => Sys2Proof.Machine.execDebounceExpiry input s
  | .runOnExpiry side => Sys2Proof.Machine.execRunOnExpiry side s
  | .phaseBoundary => Sys2Proof.Machine.execPhaseBoundary s
  | .inrushEnd channel => Sys2Proof.Machine.execInrushEnd channel s
  | .pullInEnd channel => Sys2Proof.Machine.execPullInEnd channel s
  | .channelSample channel milliamps => Sys2Proof.Machine.execChannelSample channel milliamps s
  | .lampOpenDetect channel => Sys2Proof.Machine.execLampOpenDetect channel s
  | .lampOpenClear channel => Sys2Proof.Machine.execLampOpenClear channel s
  | .goodRunExpiry channel => Sys2Proof.Machine.execGoodRunExpiry channel s
  | .tripWaitEnd channel => Sys2Proof.Machine.execTripWaitEnd channel s
  | .senderSample sender pin => Sys2Proof.Machine.execSenderSample sender pin s
  | .gaugeUpdate gauge => Sys2Proof.Machine.execGaugeUpdate gauge s
  | .driverSample gauge milliamps => Sys2Proof.Machine.execDriverSample gauge milliamps s
  | .driverWaitEnd gauge => Sys2Proof.Machine.execDriverWaitEnd gauge s
  | .settleWindowEnd => Sys2Proof.Machine.execSettleWindowEnd s
  | .fanRampStep => Sys2Proof.Machine.execFanRampStep s
  | .fanSample milliamps => Sys2Proof.Machine.execFanSample milliamps s
  | .fanStall => Sys2Proof.Machine.execFanStall s
  | .stallWaitEnd => Sys2Proof.Machine.execStallWaitEnd s
  | .fanOpenDetect => Sys2Proof.Machine.execFanOpenDetect s
  | .fanOpenClear => Sys2Proof.Machine.execFanOpenClear s
  | .sampleSlot bat dyn => Sys2Proof.Machine.execSampleSlot bat dyn s
  | .leanTimerExpiry => Sys2Proof.Machine.execLeanTimerExpiry s
  | .budgetTimerExpiry => Sys2Proof.Machine.execBudgetTimerExpiry s
  | .recoveryTimerExpiry => Sys2Proof.Machine.execRecoveryTimerExpiry s
  | .shedTimerExpiry => Sys2Proof.Machine.execShedTimerExpiry s
  | .unshedTimerExpiry => Sys2Proof.Machine.execUnshedTimerExpiry s
  | .crankExitTimerExpiry => Sys2Proof.Machine.execCrankExitTimerExpiry s
  | .crankLimitTimerExpiry => Sys2Proof.Machine.execCrankLimitTimerExpiry s
  | .powerLoss => Sys2Proof.Machine.execPowerLoss s
  | .byteReceived byte => Sys2Proof.Machine.execByteReceived byte s

end Sys2Proof.Machine
end

