-- ==== Sys2Proof/Machine/Step.lean ====
section
/-! DEFINITION. One step of the part: the command at the front of the queue, or, on an empty queue, the part's own
clock (log 1). -/

namespace Sys2Proof.Machine

/-- The state with a queue of commands. -/
def State.withPending (s : State) (queue : List Instr) : State := { s with pending := queue }

/-- The part's own clock: the command that is due, or one millisecond where none is (DESIGN CHOICE, log 1). -/
def idle (s : State) : Host.Outcome State Fault Refusal :=
  match s.due with
  | some c => exec c s.clockActed
  | none => .next s.tick

/-- One step: the command at the front of the queue runs with the rest of the queue waiting; on an empty queue the
clock acts. -/
def step (s : State) : Host.Outcome State Fault Refusal :=
  match s.pending with
  | c :: rest => exec c (s.withPending rest)
  | [] => idle s

/-- The state with the command that a word spells at the front of its queue; unchanged where the word spells
none, as every word does (log 33). -/
def State.withFetchWord (s : State) (nbits w : Nat) : State :=
  match decodeTableWord nbits w with
  | some c => s.withPending (c :: s.pending)
  | none => s

end Sys2Proof.Machine
end

