-- ==== Sys2Proof/Safety.lean ====
section
/-! DEFINITION. What the claims speak of: a part that takes requests, what a request leaves on the link, and the
invariants that every step keeps. -/

namespace Sys2Proof.Machine

/-! ### Requests -/

/-- The part runs, no restart is to come, the host has not fallen silent, and no frame is being served. -/
abbrev State.attentive (s : State) : Prop :=
  s.powered = true ∧ s.restarting = false ∧ s.link.limp = false ∧ s.link.served = none

/-- The link after a request has been served: the link timer from zero (R166), its frame the served frame (R162), its
reply behind those that wait (R163); nothing else of the link changes (log 3). -/
def State.linkAfter (s : State) (frame : Frame) (payload : Reply) : Link :=
  { s.link with
    timer := 0, served := some frame
    outbox := s.link.outbox ++ [.reply (frame.replyWith payload)] }

/-- A request has been answered and nothing but the link has changed. -/
def State.answered (s : State) (frame : Frame) (payload : Reply) : State :=
  { s with link := s.linkAfter frame payload }

/-! ### What a reaction leaves alone -/

/-- A channel after it has followed its call: TRIP_WAIT and LOCKED_OFF stay (R58, R60); a called channel that is OFF
begins an activation with every timer and run at zero (R47), and one that conducts goes on; one that is not called
goes to OFF with every timer and run at zero (R52; the activation and wait timers by log 40). -/
def followedChannel (x : Channel) (profile : Profile) (called : Bool) : Channel :=
  let fresh := fun state : ChannelState =>
    ({ x with state := state, activation := 0, lowRun := none, highRun := none, goodRun := 0, wait := 0 } : Channel)
  match x.state, called with
  | .tripWait, _ => x
  | .lockedOff, _ => x
  | .off, true => fresh (if profile = .solenoid then .pullIn else .inrush)
  | _, true => x
  | .off, false => x
  | _, false => fresh .off

/-- A phase as it is fixed when it begins. It is doubled exactly while some active side has a channel under its enabled
indicator entries that is OPEN-flagged or in LOCKED_OFF (R73); it lasts 30,000 over the rate, or over twice the rate
when doubled, to the nearest millisecond, an exact half up (R72). -/
def State.phaseFixed (s : State) : Prop :=
  (s.flasher.doubled = true ↔ ∃ (side : Side) (c : Fin 16) (k : Fin 16),
    s.sideActive side = true ∧ ((s.channel c).openFlag = true ∨ (s.channel c).state = .lockedOff)
    ∧ (s.mapEntry k).enabled = true
    ∧ (s.mapEntry k).role = (match side with
      | .left => .indL
      | .right => .indR)
    ∧ (s.mapEntry k).first ≤ c ∧ c ≤ (s.mapEntry k).last)
  ∧ (0 < s.settings.flashRate →
    let d := if s.flasher.doubled = true then 2 * s.settings.flashRate else s.settings.flashRate
    2 * d * s.flasher.phaseLength ≤ 60000 + d ∧ 60000 + d < 2 * d * (s.flasher.phaseLength + 1))

/-- The blocks' reaction to whatever led to a state, but for the fan's: the cadence starts in ON_PHASE from zero when some
side becomes active, its first phase fixed then, goes on while one is active and stops with none (R68, R70, R71), the
run-on timers run on
their condition (R76), the channels follow their calls, CHARGE_WARN marks a charge condition that became true (R146),
a programming without its supply fails (R156); all the rest is as it was. -/
structure State.sameBeyondReaction (s t : State) : Prop where
  pending : t.pending = s.pending
  powered : t.powered = s.powered
  restarting : t.restarting = s.restarting
  inputs : t.inputs = s.inputs
  functions : t.functions = s.functions
  reservation : t.reservation = s.reservation
  cadence : (t.anySide = false →
      t.flasher.cadence = .idle ∧ t.flasher.phaseTimer = 0 ∧ t.flasher.phaseLength = 0
        ∧ t.flasher.doubled = false)
    ∧ (t.anySide = true → s.flasher.cadence = .idle →
      t.flasher.cadence = .onPhase ∧ t.flasher.phaseTimer = 0 ∧ t.phaseFixed)
    ∧ (t.anySide = true → s.flasher.cadence ≠ .idle →
      t.flasher.cadence = s.flasher.cadence ∧ t.flasher.phaseTimer = s.flasher.phaseTimer
        ∧ t.flasher.phaseLength = s.flasher.phaseLength ∧ t.flasher.doubled = s.flasher.doubled)
  runOn : ∀ side, t.runOn side = (if t.runOnRuns side = true then some ((s.runOn side).getD 0) else none)
  channels : ∀ c, t.channel c = followedChannel (s.channel c) (s.channelConfig c).profile (t.called c)
  senders : t.senders = s.senders
  gauges : t.gauges = s.gauges
  fan : t.fan.openFlag = s.fan.openFlag ∧ t.fan.current = s.fan.current
  supply : t.supply = { s.supply with charge := t.supply.charge }
  charge : t.event .chargeWarn = (if t.supply.charge = true ∧ s.supply.charge = false then ⟨true, 0⟩
    else s.event .chargeWarn)
  store : (s.store.programming = none ∨ t.storeCondition = true →
      t.store = s.store ∧ t.event .storeFail = s.event .storeFail)
    ∧ (∀ p, s.store.programming = some p → t.storeCondition = false →
      t.store = { s.store with programming := none, failure := some ⟨p.image.page, .lowSupply⟩ }
        ∧ t.event .storeFail = ⟨true, p.image.page.val⟩)
  link : t.link = s.link
  events : ∀ e, e ≠ .chargeWarn → e ≠ .storeFail → t.event e = s.event e
  settings : t.settings = s.settings
  tables : t.tables = s.tables
  clockActs : t.clockActs = s.clockActs

/-! ### What a settled part is -/

/-- No channel lags its call, and the cadence runs exactly while some side is active (R35, R46, R52, R68, R70). -/
abbrev State.CallsFollowed (s : State) : Prop :=
  (∀ c : Fin 16, ((s.channels[c]).state.conducting = true → s.called c = true)
    ∧ ((s.channels[c]).state = .off → s.called c = false))
  ∧ (s.flasher.cadence = .idle ↔ s.anySide = false)

/-- Nothing that follows its condition at once lags it: the charge condition (R146), the run-on timers (R76), and
a programming in flight, which needs the store supply condition (R156). -/
abbrev State.ConditionsFollowed (s : State) : Prop :=
  s.supply.charge = s.chargeCondition
  ∧ s.flasher.leftRunOn.isSome = s.runOnRuns .left
  ∧ s.flasher.rightRunOn.isSome = s.runOnRuns .right
  ∧ (s.store.programming.isSome = true → s.storeCondition = true)

/-- The blocks have taken up the change that led to a state: their reaction and nothing beyond it differs from it, the
fan follows its target duty (R124), and nothing lags. -/
structure State.settledAs (s t : State) : Prop where
  same : s.sameBeyondReaction t
  fan : t.fan = s.fan.follow s.settings.fan.rampStep t.fanTarget
  calls : t.CallsFollowed
  conditions : t.ConditionsFollowed

/-! ### Writes of functions -/

/-- The fan after the changes of IGN and FAN between two states, before it follows its target duty (R122, R128): the
change of IGN first and of FAN second (the model's order, log 30). A settle window of 0 ends the settle timer at the
moment it would start. -/
def State.fanAfterDemand (s t : State) : Fan :=
  let k := s.settings.fan
  let dropped := fun f : Fan => { f with settle := none, targetStep := 0 }
  let started := fun f : Fan =>
    if k.settleWindow = 0 then
      { f with settle := none
               targetStep := if k.ignitionFed = true ∧ t.eff .ign ≠ 1 then 0 else t.eff .fan }
    else { f with settle := some 0 }
  let f : Fan :=
    if t.eff .ign = s.eff .ign ∨ k.ignitionFed = false then s.fan
    else if t.eff .ign ≠ 1 then dropped s.fan
    else if t.eff .fan = 0 then s.fan
    else started s.fan
  if t.eff .fan = s.eff .fan then f
  else if t.eff .fan = 0 then
    { dropped f with stallCount := 0, state := if f.state = .stallLock then .off else f.state }
  else started f

/-- What a change of one function's record leaves: the other functions are as they were, the fan has taken what changed
of FAN and IGN, the blocks have settled, and beyond that only the reservation, DEMAND_CHANGE, the link and the
settings may have changed, which are spoken of apart. -/
structure State.sameBeyondFunction (s t : State) (f : Fn) : Prop where
  others : ∀ g, g ≠ f → t.fn g = s.fn g
  settled : ({ s with
    functions := t.functions, reservation := t.reservation, link := t.link, settings := t.settings
    events := s.events.set Event.demandChange.idx (t.event .demandChange)
    fan := s.fanAfterDemand t } : State).settledAs t

/-- DEMAND_CHANGE after a cause that changes several functions at once: it holds the highest-numbered function whose
effective value changed, and is as it was where none did (R15). -/
def State.demandChangeAfter (s t : State) : Prop :=
  (∀ f, t.eff f ≠ s.eff f → (∀ g, f.idx < g.idx → t.eff g = s.eff g) →
    t.event .demandChange = ⟨true, f.idx.val⟩)
  ∧ ((∀ f, t.eff f = s.eff f) → t.event .demandChange = s.event .demandChange)

/-- A function's record after its switch value has changed under a source mode: the table of R10, the cancel latch
cleared first (R14). -/
def movedRecord (f : Fn) (mode : SourceMode) (r : FnRecord) (value : Nat) : FnRecord :=
  match mode with
  | .switchOnly => ⟨value, r.link, value, false⟩
  | .shared => ⟨value, none, value, false⟩
  | .linkOnly => if r.latch = true then ⟨value, r.link, r.link.getD f.restValue, false⟩
      else { r with switch := value }

/-- What the finding of a switch value leaves of a part. Nothing changes where it is the value the function had; under
LINK_ONLY with the latch clear the switch value alone changes; otherwise the record is the table's, a reservation on
the function clears, and the blocks take it up, the fan what changed of FAN and IGN first; DEMAND_CHANGE is set where a
debounced input has found it and the effective value has changed, and never on behalf of the link (R5, R6, R7, R10,
R15, R16). -/
def State.switchFound (s t : State) (f : Fn) (value : Nat) (byInput : Bool) : Prop :=
  if value = (s.fn f).switch then t = s
  else if s.behaves f = .linkOnly ∧ (s.fn f).latch = false then
    t = { s with functions := s.functions.set f.idx { s.fn f with switch := value } }
  else
    t.fn f = movedRecord f (s.behaves f) (s.fn f) value
    ∧ t.reservation = (if s.reservation = some f then none else s.reservation)
    ∧ t.event .demandChange = (if byInput = false ∨ t.eff f = s.eff f then s.event .demandChange
      else ⟨true, f.idx.val⟩)
    ∧ s.sameBeyondFunction t f ∧ t.settings = s.settings ∧ t.link = s.link

/-- A step of a binding change, which concerns one function or none: a switch value that meets the step's condition is
found on behalf of the link (R7). -/
def State.bindingStep (s t : State) (f : Option Fn) (condition : Fn → Nat → Prop) : Prop :=
  match f with
  | none => t = s
  | some f => ∃ value, condition f value ∧ s.switchFound t f value false

/-- A value is the LEVEL evaluation of a function, one input left out or none: the largest level value among the ACTIVE
inputs bound to it with LEVEL, or 0 where there is none (R5). -/
def State.largestLevel (s : State) (f : Fn) (without : Option (Fin 12)) (value : Nat) : Prop :=
  (∀ j, without ≠ some j → (s.binding j).function = some f → (s.binding j).action = .level →
    (s.input j).debounced = .active → (s.binding j).level ≤ value)
  ∧ (value = 0 ∨ ∃ j, without ≠ some j ∧ (s.binding j).function = some f ∧ (s.binding j).action = .level
    ∧ (s.input j).debounced = .active ∧ (s.binding j).level = value)

/-- The run-on limit has cancelled a side: the latch of its indicator is set, the link value absent, the effective value
0, a reservation on it clear, DEMAND_CHANGE set where the effective value was not 0, IND_TIMEOUT with the side,
and the blocks have taken it up (R14, R15, R16, R77). -/
def State.cancelledAs (s t : State) (side : Side) : Prop :=
  let f := indicatorFn side
  let detail := match side with
    | .left => 0
    | .right => 1
  t.fn f = ⟨(s.fn f).switch, none, 0, true⟩
  ∧ t.reservation = (if s.reservation = some f then none else s.reservation)
  ∧ t.event .demandChange = (if s.eff f = 0 then s.event .demandChange else ⟨true, f.idx.val⟩)
  ∧ ({ s with events := s.events.set Event.indTimeout.idx ⟨true, detail⟩ } : State).sameBeyondFunction t f
  ∧ t.runOn side = none ∧ t.settings = s.settings ∧ t.link = s.link

/-! ### Bytes -/

/-- The state after a list of bytes has arrived on RXD, one command each. -/
def afterBytes (s : State) : List Byte → Host.Outcome State Fault Refusal
  | [] => .next s
  | b :: rest =>
    match exec (.byteReceived b) s with
    | .next t => afterBytes t rest
    | .fault r => .fault r
    | .refused r => .refused r

/-! ### Invariants -/

/-- Outside LIMP every effective value is the mode evaluation of its record (R9 to R14, R20). -/
abbrev State.Evaluated (s : State) : Prop :=
  s.link.limp = false → ∀ i : Fin 13,
    (s.functions[i]).effective
      = modeEvaluation (Fn.ofIdx i) s.settings.modes[i] s.functions[i]

/-- The duty of the fan agrees with its state and its target duty (the tables of R120 and R124). -/
abbrev State.FanInStep (s : State) : Prop :=
  match s.fan.state with
  | .off => s.fan.dutyNow = 0 ∧ s.fanTarget = 0
  | .ramp => s.fan.dutyNow < s.fanTarget
  | .run => s.fan.dutyNow = s.fanTarget ∧ 0 < s.fanTarget
  | .stallWait | .stallLock => s.fan.dutyNow = 0

/-- A channel is in LOCKED_OFF exactly when its trip count is 3, its greatest value (R45, R57 to R62). -/
abbrev State.LockOffCounted (s : State) : Prop :=
  ∀ c : Fin 16, (s.channels[c]).tripCount ≤ 3
    ∧ ((s.channels[c]).state = .lockedOff ↔ (s.channels[c]).tripCount = 3)

/-- A point within the ranges of its table (R97). -/
def Point.fits (page : Fin 8) (p : Point) : Bool :=
  if page.val < 4 then decide (p.x ≤ 5000) && decide (p.y ≤ 1000)
  else decide (p.x ≤ 1000) && decide (p.y ≤ 16000)

/-- Points that may be a page's table: 2 to 16 of them, x strictly increasing, all in range (R97). -/
def tableFits (page : Fin 8) (points : Table) : Bool :=
  decide (2 ≤ points.length) && decide (points.length ≤ 16) && increasing points
    && points.all (Point.fits page)

/-- What is being programmed may be a table of its page, or is a settings image. -/
def Image.fits : Image → Bool
  | .table page points => tableFits page points
  | .settings _ => true

/-- The staging buffer holds points of its table, and its pointer and length are at most 16 (R153, R154). -/
def Staging.fits (b : Staging) : Bool :=
  decide (b.pointer ≤ 16) && decide (b.length ≤ 16) && b.slots.toList.all (Point.fits b.table)

/-- Every active table, every valid table page, the image being programmed and the staged points are as R97
requires. -/
abbrev State.TablesFit (s : State) : Prop :=
  (∀ p : Fin 8, tableFits p s.tables[p] = true ∧ (s.store.tablePages[p]).all (tableFits p) = true)
  ∧ s.store.programming.all (fun p => p.image.fits) = true
  ∧ s.store.staging.all Staging.fits = true

/-- Every gauge's damping constant of a set of settings is 1 to 256 (R95). -/
def Settings.dampingsFit (x : Settings) : Bool :=
  x.gauges.toList.all fun k => decide (1 ≤ k.k) && decide (k.k ≤ 256)

/-- Every gauge's results lie within their ranges, and so does every damping constant in the working copy, on page S and
in a settings image being written (R95). -/
abbrev State.GaugesInRange (s : State) : Prop :=
  (∀ g : Fin 4, (s.gauges[g]).linkPosition ≤ 1000 ∧ (s.gauges[g]).target ≤ 1000
    ∧ (s.gauges[g]).filtered ≤ 1000 ∧ (s.gauges[g]).required ≤ 16000 ∧ (s.gauges[g]).duty ≤ 1000)
  ∧ s.settings.dampingsFit = true
  ∧ s.store.settingsPage.all Settings.dampingsFit = true
  ∧ s.store.programming.all (fun p => match p.image with
      | .settings x => x.dampingsFit
      | .table _ _ => true) = true

/-- A page is not valid while it is being programmed (R151, R159), and nothing is being programmed once a RESTART
has been accepted (R165). -/
abbrev State.FlightUnmarked (s : State) : Prop :=
  (∀ p ∈ s.store.programming,
    match p.image with
    | .table page _ => s.store.tablePages[page] = none
    | .settings _ => s.store.settingsPage = none)
  ∧ (s.restarting = true → s.store.programming = none)

/-- The supply record: CRANK entry is armed outside SHED (R142, R148), a timer is at zero outside the states it runs in
and its slot count is below 100 (R135), and the means are those of at most eight samples (R134). -/
abbrev State.SupplyInOrder (s : State) : Prop :=
  (s.supply.state ≠ .shed → s.supply.armed = true)
  ∧ (s.supply.state ≠ .normal →
      s.supply.timers.lean = SupplyTimer.zero ∧ s.supply.timers.budget = SupplyTimer.zero)
  ∧ (s.supply.state ≠ .lean → s.supply.timers.recovery = SupplyTimer.zero)
  ∧ (s.supply.state ≠ .normal ∧ s.supply.state ≠ .lean → s.supply.timers.shed = SupplyTimer.zero)
  ∧ (s.supply.state ≠ .shed → s.supply.timers.unshed = SupplyTimer.zero)
  ∧ (s.supply.state ≠ .crank →
      s.supply.timers.crankExit = SupplyTimer.zero ∧ s.supply.timers.crankLimit = SupplyTimer.zero)
  ∧ (∀ t ∈ [s.supply.timers.lean, s.supply.timers.budget, s.supply.timers.recovery, s.supply.timers.shed,
      s.supply.timers.unshed, s.supply.timers.crankExit, s.supply.timers.crankLimit], t.slots < 100)
  ∧ s.supply.batSamples.length ≤ 8 ∧ s.supply.dynSamples.length ≤ 8
  ∧ s.supply.batMean = (if s.supply.batSamples = [] then none else some (meanOf s.supply.batSamples))
  ∧ s.supply.dynMean = (if s.supply.dynSamples = [] then none else some (meanOf s.supply.dynSamples))

/-- The link's places agree: a reply to a request waits exactly while a frame is served, the pending frame's place is kept
exactly while a frame is pending, at most one FRAME_ERROR waits, and a frame is pending only while one is served or a
restart is to come (R161, R162, R165). -/
abbrev State.LinkInOrder (s : State) : Prop :=
  (s.link.outbox.filter Outgoing.isReply).length = (if s.link.served.isSome = true then 1 else 0)
  ∧ (s.link.outbox.filter (· == .awaited)).length = (if s.link.pendingFrame.isSome = true then 1 else 0)
  ∧ (s.link.outbox.filter Outgoing.isError).length ≤ 1
  ∧ (s.link.pendingFrame.isSome = true → s.link.served.isSome = true ∨ s.restarting = true)

/-- A binding's level value lies within the range of its function (R4). -/
def Binding.fits (b : Binding) : Bool :=
  match b.function with
  | some f => decide (b.level ≤ f.maxValue)
  | none => true

/-- Every binding of a set of settings fits. -/
def Settings.bindingsFit (x : Settings) : Bool := x.bindings.toList.all Binding.fits

/-- Every value of a function lies within its range (R9), and so does every level value in the working copy, on
page S and in a settings image being written. -/
abbrev State.ValuesInRange (s : State) : Prop :=
  (∀ i : Fin 13, (s.functions[i]).switch ≤ (Fn.ofIdx i).maxValue
    ∧ (s.functions[i]).effective ≤ (Fn.ofIdx i).maxValue
    ∧ (s.functions[i]).link.all (fun v => decide (v ≤ (Fn.ofIdx i).maxValue)) = true)
  ∧ s.settings.bindingsFit = true
  ∧ s.store.settingsPage.all Settings.bindingsFit = true
  ∧ s.store.programming.all (fun p => match p.image with
      | .settings x => x.bindingsFit
      | .table _ _ => true) = true

end Sys2Proof.Machine
end

