-- ==== Sys2Proof/Certificates/Slice0/Obligations.lean ====
section
/-! DEFINITION. The statements for the provers. A statement whose docstring says so rests on a choice of the model and
names its log entry. Throughout, a request command stands for the arrival of its frame (log 3), and a timer's command for
the moment the timer reaches its figure (log 2). That an abandoned activation timer and a wait timer outside its wait stand
at 0 is the model's choice wherever a channel or a driver is spelled out (log 40). -/

open Sys2Proof Sys2Proof.Machine

/-! ### The step and the clock -/

/-- One step with a command at the front of the queue is that command's meaning on the state with the rest of the
queue. -/
def Obligations.StepRunsTheCommandInFront : Prop :=
  ∀ (c : Instr) (rest : List Instr) (s : State),
    step (s.withPending (c :: rest)) = exec c (s.withPending rest)

/-- On an empty queue the step takes the command that is due, or passes one millisecond where none is; and a millisecond
moves the timers that run, and nothing else: every debounce count, the phase timer outside IDLE, the run-on timers, the
activation timer of a conducting channel, in ON and HOLD the good-run timer and outside CRANK the open-test runs, of
which a low run stays at 50, the wait timers of channels, drivers and fan, the time since each gauge update, the settle
timer, the ramp timer in RAMP, in RAMP and RUN the fan's open-test runs and outside CRANK its stall run, the time of a
programming, the link timer, and the gap inside a frame. The clock is the model's choice (logs 1, 19; runs log 31), and so
is that the link timer in LIMP or with the timeout at 0, and the gap count while hunting, keep their figures (logs 41, 42). -/
def Obligations.EmptyQueueLetsTheClockAct : Prop :=
  (∀ (s : State) (c : Instr), s.pending = [] → s.due = some c → step s = exec c s.clockActed)
  ∧ ∀ s : State, s.pending = [] → s.due = none → s.powered = true →
    ∃ t, step s = .next t
      ∧ t = { s with
        inputs := t.inputs, flasher := t.flasher, channels := t.channels, gauges := t.gauges, fan := t.fan
        store := { s.store with programming := t.store.programming }
        link := { s.link with timer := t.link.timer, gap := t.link.gap } }
      ∧ (∀ i, t.input i = { s.input i with count := (s.input i).count + 1 })
      ∧ t.flasher = { s.flasher with
          phaseTimer := if s.flasher.cadence = .idle then s.flasher.phaseTimer else s.flasher.phaseTimer + 1
          leftRunOn := s.flasher.leftRunOn.map (· + 1), rightRunOn := s.flasher.rightRunOn.map (· + 1) }
      ∧ (∀ c,
        let x := s.channel c
        let conducts : Prop := x.state = .inrush ∨ x.state = .on ∨ x.state = .pullIn ∨ x.state = .hold
        let settled : Prop := x.state = .on ∨ x.state = .hold
        t.channel c = { x with
          activation := if conducts then x.activation + 1 else x.activation
          goodRun := if settled then x.goodRun + 1 else x.goodRun
          lowRun := if settled ∧ s.supply.state ≠ .crank then x.lowRun.map (fun n => min 50 (n + 1)) else x.lowRun
          highRun := if settled ∧ s.supply.state ≠ .crank then x.highRun.map (· + 1) else x.highRun
          wait := if x.state = .tripWait then x.wait + 1 else x.wait })
      ∧ (∀ g, t.gauge g = { s.gauge g with
          sinceUpdate := (s.gauge g).sinceUpdate + 1
          driverWait := if (s.gauge g).driver = .waiting then (s.gauge g).driverWait + 1
            else (s.gauge g).driverWait })
      ∧ (let f := s.fan
        let conducts : Prop := f.state = .ramp ∨ f.state = .run
        t.fan = { f with
          settle := f.settle.map (· + 1)
          rampTimer := if f.state = .ramp then f.rampTimer + 1 else f.rampTimer
          stallRun := if conducts ∧ s.supply.state ≠ .crank then f.stallRun.map (· + 1) else f.stallRun
          lowRun := if conducts then f.lowRun.map (· + 1) else f.lowRun
          highRun := if conducts then f.highRun.map (· + 1) else f.highRun
          waitTimer := if f.state = .stallWait then f.waitTimer + 1 else f.waitTimer })
      ∧ t.store.programming = s.store.programming.map (fun p => { p with elapsed := p.elapsed + 1 })
      ∧ t.link.timer = (if s.link.limp = false ∧ s.settings.linkTimeout ≠ 0 then s.link.timer + 1
          else s.link.timer)
      ∧ t.link.gap = (if s.link.receiver = .hunting then s.link.gap else s.link.gap + 1)

/-- When the clock has a command due: each timer's exactly where the timer has reached its figure in the state it runs
in. The debounce time with the raw level not yet taken; the run-on limit; the phase length; the inrush window and the
pull-in time; 50 ms of a low run with the flag clear or of a high run with it set; 10 s in ON or HOLD with trips
counted; 1 s in TRIP_WAIT and in WAITING; 100 ms from a gauge update; the settle window; each 100 ms in RAMP; 2 s of a
stall run or of the fan's runs; 10 s in STALL_WAIT; 25 ms or 150 ms of a programming; more than 5 ms inside a frame;
the link timeout; the restart once no reply waits (R2, R48, R50, R53, R54, R58, R61, R69, R77, R96, R111, R122,
R124, R125, R127, R129, R151, R161, R165, R166). Of several that are due the first in the model's order is taken
(log 19). Supply timers run in the slots, and every other command comes from outside (logs 4, 23). The model's choices
besides: nothing is due in the held part (log 10), the restart once no reply to a request waits (log 12), a programming's
outcome the free value at the clock's count (log 22), the gap found in whole milliseconds (log 24), and the count of the
ramp timer's multiples of 100 ms (log 29). -/
def Obligations.TimersAreDueAtTheirFigures : Prop :=
  ∀ s : State, (s.powered = false → s.due = none) ∧ (s.powered = true → s.due = s.allDue.head?
    ∧ ∀ c : Instr, c ∈ s.allDue ↔ match c with
    | .partRestart => s.restarting = true ∧ ∀ o ∈ s.link.outbox, o.isReply = false
    | .frameGapTimeout => s.link.receiver ≠ .hunting ∧ 5 < s.link.gap
    | .limpEntry => s.link.limp = false ∧ s.settings.linkTimeout ≠ 0 ∧ s.settings.linkTimeout ≤ s.link.timer
    | .programmingComplete agrees =>
      match s.store.programming with
      | none => False
      | some p => (match p.image with
          | .table _ _ => 25
          | .settings _ => 150) ≤ p.elapsed ∧ agrees = Config.readBackAgrees s.clockActs
    | .debounceExpiry i => (s.binding i).debounce ≤ (s.input i).count
        ∧ (s.input i).debounced ≠ (if s.raw i = true then .active else .inactive)
    | .runOnExpiry side => s.settings.runOnLimit ≠ 0 ∧ s.runOn side ≠ none
        ∧ s.settings.runOnLimit * 1000 ≤ (s.runOn side).getD 0
    | .phaseBoundary => s.flasher.cadence ≠ .idle ∧ s.flasher.phaseLength ≤ s.flasher.phaseTimer
    | .inrushEnd c => (s.channel c).state = .inrush ∧ (s.channelConfig c).inrushWindow ≤ (s.channel c).activation
    | .pullInEnd c => (s.channel c).state = .pullIn ∧ (s.channelConfig c).pullIn ≤ (s.channel c).activation
    | .lampOpenDetect c => ((s.channel c).state = .on ∨ (s.channel c).state = .hold) ∧ s.supply.state ≠ .crank
        ∧ 50 ≤ (s.channel c).lowRun.getD 0 ∧ (s.channel c).openFlag = false
    | .lampOpenClear c => ((s.channel c).state = .on ∨ (s.channel c).state = .hold) ∧ s.supply.state ≠ .crank
        ∧ 50 ≤ (s.channel c).highRun.getD 0 ∧ (s.channel c).openFlag = true
    | .goodRunExpiry c => ((s.channel c).state = .on ∨ (s.channel c).state = .hold)
        ∧ 10000 ≤ (s.channel c).goodRun ∧ (s.channel c).tripCount ≠ 0
    | .tripWaitEnd c => (s.channel c).state = .tripWait ∧ 1000 ≤ (s.channel c).wait
    | .gaugeUpdate g => 100 ≤ (s.gauge g).sinceUpdate
    | .driverWaitEnd g => (s.gauge g).driver = .waiting ∧ 1000 ≤ (s.gauge g).driverWait
    | .settleWindowEnd => s.fan.settle ≠ none ∧ s.settings.fan.settleWindow ≤ s.fan.settle.getD 0
    | .fanRampStep => s.fan.state = .ramp ∧ 100 * (s.fan.rampSteps + 1) ≤ s.fan.rampTimer
    | .fanStall => (s.fan.state = .ramp ∨ s.fan.state = .run) ∧ s.supply.state ≠ .crank
        ∧ 2000 ≤ s.fan.stallRun.getD 0
    | .stallWaitEnd => s.fan.state = .stallWait ∧ 10000 ≤ s.fan.waitTimer
    | .fanOpenDetect => (s.fan.state = .ramp ∨ s.fan.state = .run) ∧ 2000 ≤ s.fan.lowRun.getD 0
        ∧ s.fan.openFlag = false
    | .fanOpenClear => (s.fan.state = .ramp ∨ s.fan.state = .run) ∧ 2000 ≤ s.fan.highRun.getD 0
        ∧ s.fan.openFlag = true
    | _ => False)

/-! ### Power -/

/-- POWER_ON_RESET starts every block afresh, whatever it was doing, and PART_RESTART after an accepted RESTART does
the same but for RESTARTED, whose detail is 1 (R21, R64, R82, R93, R117, R132, R149, R165, R173). These are the model's
choices: that a part that runs takes POWER_ON_RESET as a power cycle (log 11), that PART_RESTART needs an accepted RESTART
and includes its reply's leaving (log 12), and that the latest currents of channels and fan, a driver's latest sample and
its wait start at 0 (log 21), and that the gap count starts at 0 (log 42). -/
def Obligations.ResetStartsEveryBlockAfresh : Prop :=
  ∀ s : State, ∃ t, exec .powerOnReset s = .next t
    ∧ (s.powered = true → s.restarting = true → exec .partRestart s = .next (t.raise .restarted 1))
    ∧ t.event .restarted = ⟨true, 0⟩
    ∧ (∀ e, e ≠ .restarted → e ≠ .storeFail → (t.event e).flag = false)
    ∧ t.powered = true ∧ t.restarting = false ∧ t.pending = s.pending
    ∧ (∀ i, t.input i = ⟨(s.input i).contact, .unsettled, 0⟩)
    ∧ (∀ f, (t.fn f).link = none ∧ (t.fn f).latch = false
        ∧ (t.fn f).switch = (if isBound t.settings.bindings f = true then 0 else f.restValue)
        ∧ (t.fn f).effective = modeEvaluation f (t.mode f) (t.fn f))
    ∧ t.reservation = none
    ∧ t.flasher = ⟨.idle, 0, 0, false, none, none⟩
    ∧ (∀ c, t.channel c = ⟨.off, 0, false, 0, none, none, 0, 0, 0⟩)
    ∧ (∀ n, t.sender n = ⟨none, none, 0, .ok⟩)
    ∧ (∀ g, t.gauge g = ⟨0, 0, 0, 0, 0, false, false, false, false, false, .driving, 0, 0, 0⟩)
    ∧ t.fan = ⟨.off, 0, 0, none, 0, 0, none, 0, 0, false, none, none, 0⟩
    ∧ t.fanCap = 1000
    ∧ t.supply.state = .normal ∧ t.supply.batMean = none ∧ t.supply.dynMean = none
    ∧ t.supply.armed = true ∧ t.supply.charge = false ∧ t.supply.lowSeen = false
    ∧ t.supply.minBat = none ∧ t.supply.timers = .zero ∧ t.storeCondition = false
    ∧ t.link = ⟨.hunting, 0, none, none, [], false, 0⟩
    ∧ t.store.programming = none ∧ t.store.staging = none
    ∧ t.store.tablePages = s.store.tablePages ∧ t.store.settingsPage = s.store.settingsPage

/-- After a reset a valid page gives its contents and a page that is not valid gives factory values, spelled out here as the
tables of the spec have them; the invalid page with the highest number is left in STORE_FAIL and in the failure record,
and with none invalid neither is set (R22, R23, R40, R65, R83, R94, R118, R132, R137, R150, R152, R173). -/
def Obligations.InvalidPagesGiveFactoryValues : Prop :=
  ∀ s : State, ∃ t, exec .powerOnReset s = .next t
    ∧ (∀ x, s.store.settingsPage = some x → t.settings = x)
    ∧ (∀ (p : Fin 8) (points : Table), s.store.tablePages[p] = some points → t.tables[p] = points)
    ∧ (∀ p : Fin 8, s.store.tablePages[p] = none →
        t.tables[p] = if p.val < 4 then [⟨0, 0⟩, ⟨5000, 1000⟩] else [⟨0, 0⟩, ⟨1000, 10000⟩])
    ∧ (s.store.settingsPage = none →
      let level := fun (f : Fn) => (⟨some f, .level, 1, .activeToEarth, 20⟩ : Binding)
      let heavy : ChannelConfig := ⟨.lamp, 100, 300, 400, 10000, 30000, 150, none⟩
      let light : ChannelConfig := ⟨.lamp, 100, 300, 400, 3000, 8000, 150, none⟩
      t.settings.bindings.toList = [level .ign, level .side, level .head, level .beam, level .indL, level .indR,
        level .hazard, { level .stop with polarity := .activeToSupply }, { level .fan with action := .step },
        level .interior, level .reverse, level .fog]
      ∧ (∀ f, t.mode f = (match f with
          | .ign => .switchOnly
          | .stop => .switchOnly
          | .hazard => .switchOnly
          | .instr => .linkOnly
          | _ => .shared))
      ∧ (∀ r, t.shedClass r = (match r with
          | .main => 1
          | .instr => 1
          | .reverse => 1
          | .fog => 2
          | .interior => 3
          | _ => 0))
      ∧ t.settings.map.toList = [⟨.side, 0, 1, true⟩, ⟨.side, 8, 9, true⟩, ⟨.dip, 2, 3, true⟩, ⟨.main, 4, 5, true⟩,
        ⟨.indL, 6, 6, true⟩, ⟨.indR, 7, 7, true⟩, ⟨.indL, 10, 10, true⟩, ⟨.indR, 11, 11, true⟩,
        ⟨.stop, 10, 11, true⟩, ⟨.instr, 12, 12, true⟩, ⟨.indTell, 13, 13, true⟩, ⟨.mainTell, 14, 14, true⟩,
        ⟨.chargeTell, 15, 15, true⟩, ⟨.side, 0, 0, false⟩, ⟨.side, 0, 0, false⟩, ⟨.side, 0, 0, false⟩]
      ∧ (∀ c : Fin 16, t.channelConfig c = if c.val < 8 then heavy else light)
      ∧ t.settings.flashRate = 90 ∧ t.settings.runOnLimit = 60
      ∧ (∀ n, t.senderConfig n = ⟨5, 5000⟩)
      ∧ t.settings.gauges.toList = [⟨some 0, .thermal, 16, .rest⟩, ⟨some 1, .thermal, 64, .rest⟩,
        ⟨some 2, .magnetic, 128, .rest⟩, ⟨none, .magnetic, 256, .rest⟩]
      ∧ t.settings.fan = ⟨450, 700, 1000, 100, 1500, 9000, true⟩
      ∧ t.settings.supply = ⟨.volt12, 11800, 10500, 9000, 10000, 300, 1000, 9500, 0⟩
      ∧ (∀ e : Event, t.settings.events[e.idx] = ⟨true, match e with
          | .lampShort => 6
          | .channelLocked => 6
          | .chargeWarn => 6
          | .fanLocked => 6
          | .storeFail => 5
          | .linkLost => 5
          | _ => 3⟩)
      ∧ t.settings.attnThreshold = 2 ∧ t.settings.linkTimeout = 2000)
    ∧ (s.store.settingsPage = none →
        t.store.failure = some ⟨8, .invalidAtStart⟩ ∧ t.event .storeFail = ⟨true, 8⟩)
    ∧ (∀ p : Fin 8, s.store.settingsPage ≠ none → s.store.tablePages[p] = none →
        (∀ q : Fin 8, p < q → s.store.tablePages[q] ≠ none) →
        t.store.failure = some ⟨p.castLE (by decide), .invalidAtStart⟩
          ∧ t.event .storeFail = ⟨true, p.val⟩)
    ∧ (s.store.settingsPage ≠ none → (∀ p : Fin 8, s.store.tablePages[p] ≠ none) →
        t.store.failure = none ∧ (t.event .storeFail).flag = false)

/-- POWER_LOSS: every output stops conducting and the pages stay, so that a page whose programming was cut short is
still not valid (R149, R151); and until POWER_ON_RESET the held part takes no command but a pin's movement (the
model's choice, log 10). -/
def Obligations.PowerLossHoldsThePart : Prop :=
  (∀ s : State, s.powered = true → ∃ t, exec .powerLoss s = .next t
    ∧ t.powered = false
    ∧ (∀ c, t.dutyNow c = 0) ∧ t.fan.dutyNow = 0 ∧ (∀ g, (t.gauge g).duty = 0)
    ∧ t.store.tablePages = s.store.tablePages ∧ t.store.settingsPage = s.store.settingsPage
    ∧ t.store.programming = none
    ∧ (∀ i, (t.input i).contact = (s.input i).contact) ∧ t.pending = s.pending)
  ∧ ∀ (s : State) (c : Instr), s.powered = false → c ≠ .powerOnReset →
    (∀ i k, c ≠ .switchRawChange i k) → exec c s = .next s

/-! ### Frames -/

/-- Every request that fits its fields is read back from the frame it is sent in: kind, length, order, width and byte
order of every field (R174, R176). -/
def Obligations.FrameSpellsItsRequest : Prop :=
  ∀ (i : Instr) (frame : Frame), i.wellFormed = true → frameOf? i = some frame →
    frame.asks = .request i

/-- The bytes of a request's frame, start byte, LEN, KIND, payload and CHK, arriving one after another at a hunting
receiver with no frame being served, do what the request does (R160 to R163, R174, R176); the gap inside a frame is
counted from its last byte. That BYTE_RECEIVED takes every byte of a frame, CHK among them, is the model's reading
(log 25), and that the gap count stands at 0 once the receiver hunts again is its choice (log 42). -/
def Obligations.WireBytesServeTheirRequest : Prop :=
  ∀ (i : Instr) (frame : Frame) (s : State), i.wellFormed = true → frameOf? i = some frame →
    s.powered = true → s.restarting = false → s.link.receiver = .hunting → s.link.served = none →
    afterBytes s frame.wire = exec i { s with link := { s.link with gap := 0 } }

/-- A request whose frame ends LIMP is taken against the part as LIMP exit leaves it: every link value absent, every
effective value by its own source mode, the switch value and the cancel latch kept, DEMAND_CHANGE for what changed,
the fan and every other block having taken it up; a frame that waits as pending ends LIMP as well (R20, R162, R168).
That the fan takes a change of IGN before one of FAN is the model's choice (log 30). -/
def Obligations.FirstFrameEndsLimp : Prop :=
  ∀ (i : Instr) (frame : Frame) (s : State), frameOf? i = some frame → s.powered = true → s.link.limp = true →
    ∃ t, exec i s = exec i t
      ∧ t.link = { s.link with limp := false, timer := 0 }
      ∧ (∀ f, t.fn f = { s.fn f with
          link := none
          effective := modeEvaluation f (s.mode f) { s.fn f with link := none } })
      ∧ s.demandChangeAfter t
      ∧ ({ s with
        functions := t.functions, link := t.link, fan := s.fanAfterDemand t
        events := s.events.set Event.demandChange.idx (t.event .demandChange) } : State).settledAs t

/-- LIMP_ENTRY: the flag, the stopped timer, LINK_LOST with detail 0; every link value and the reservation absent, every
effective value as under SWITCH_ONLY with DEMAND_CHANGE for what changed, staging closed, every link position 0; the fan
and the other blocks take it up, and nothing else changes (R19, R113, R122, R153, R167). That the fan takes a change of
IGN before one of FAN, and that the stopped link timer stands at 0, are the model's choices (logs 30, 41). -/
def Obligations.LimpEntryReachesEveryBlock : Prop :=
  ∀ s : State, s.powered = true → s.link.limp = false → s.settings.linkTimeout ≠ 0 →
    ∃ t, exec .limpEntry s = .next t
      ∧ t.link = { s.link with limp := true, timer := 0 }
      ∧ t.event .linkLost = ⟨true, 0⟩
      ∧ (∀ f, t.fn f = { s.fn f with
          link := none, effective := if (s.fn f).latch = true then 0 else (s.fn f).switch })
      ∧ s.demandChangeAfter t
      ∧ (∀ g, t.gauge g = { s.gauge g with linkPosition := 0 })
      ∧ ({ s with
        functions := t.functions, link := t.link, gauges := t.gauges, fan := s.fanAfterDemand t
        reservation := none, store := { s.store with staging := none }
        events := (s.events.set Event.linkLost.idx ⟨true, 0⟩).set Event.demandChange.idx (t.event .demandChange) }
        : State).settledAs t

/-- The receiver's errors (R161). While hunting, a byte other than 0xC5 changes nothing and 0xC5 starts a frame; a LEN
above 48 queues BAD_LENGTH and hunts; a wrong sum queues BAD_CHECK and hunts; a gap discards the frame in silence.
One FRAME_ERROR waits at most, until its last byte has left (the model's choice, log 15), and nothing but the receiver
and the waiting replies changes: not the link timer, not LIMP, not the served or pending frame. That the gap count stands
at 0 while the receiver hunts is the model's choice (log 42). -/
def Obligations.FrameErrorsLeaveTheRestAlone : Prop :=
  ∀ s : State, s.powered = true →
    let after : Option Status → State := fun error => { s with link := { s.link with
      receiver := .hunting, gap := 0
      outbox := match error with
        | none => s.link.outbox
        | some status => if s.link.outbox.any Outgoing.isError = true then s.link.outbox
            else s.link.outbox ++ [.frameError status] } }
    exec .frameGapTimeout s = .next (after none)
    ∧ (∀ b : Byte, s.link.receiver = .hunting → b ≠ 0xC5 → exec (.byteReceived b) s = .next s)
    ∧ (s.link.receiver = .hunting →
        exec (.byteReceived 0xC5) s = .next { s with link := { s.link with receiver := .wantLen, gap := 0 } })
    ∧ (∀ len : Byte, s.link.receiver = .wantLen → 48 < len.toNat →
        exec (.frameBadLength len) s = .next (after (some .badLength))
          ∧ exec (.byteReceived len) s = .next (after (some .badLength)))
    ∧ (∀ (len chk : Byte) (frame : Frame), s.link.receiver = .wantCheck len frame →
        len + frame.kind + byteSum frame.payload + chk ≠ 0 →
        exec (.frameReceived chk) s = .next (after (some .badCheck))
          ∧ exec (.byteReceived chk) s = .next (after (some .badCheck)))

/-- A frame whose sum is right. With no frame being served and no restart to come it becomes the served frame at once and
does what its request's command does, or is answered BAD_LENGTH where its KIND has another length, or UNKNOWN_KIND; the
reply, of its KIND plus 0x80, goes behind those that wait. Otherwise it becomes the pending frame, a frame that it replaces
is never answered, and LINK_OVERRUN takes that frame's KIND (R162, R163, R165, R166, R174); a request command is such an
arrival in both cases (log 3), and what its arrival in LIMP does first FirstFrameEndsLimp says. The place that a pending
frame keeps for its reply, and that a replaced one gives up, is the model's form of R163's order (log 16), and the gap
count's 0 while hunting is its choice (log 42). -/
def Obligations.ValidFrameIsServedOrWaits : Prop :=
  ∀ (s : State) (len chk : Byte) (frame : Frame), s.powered = true → s.link.receiver = .wantCheck len frame →
    len + frame.kind + byteSum frame.payload + chk = 0 →
    let heard : State := { s with link := { s.link with receiver := .hunting, gap := 0 } }
    (s.link.served = none → s.restarting = false →
      (∀ i, frame.asks = .request i → exec (.frameReceived chk) s = exec i heard)
      ∧ (s.link.limp = false → (∀ n, requestLength frame.kind = some n → frame.payload.length ≠ n →
          exec (.frameReceived chk) s = .next (heard.answered frame [0x02]))
        ∧ (requestLength frame.kind = none →
          exec (.frameReceived chk) s = .next (heard.answered frame [0x03])))
      ∧ ∃ t payload, exec (.frameReceived chk) s = .next t
        ∧ t.link = { s.link with
            receiver := .hunting, gap := 0, timer := 0, limp := false, served := some frame
            outbox := s.link.outbox ++ [.reply ⟨frame.kind + 0x80, payload⟩] }
        ∧ (∀ n, requestLength frame.kind = some n → frame.payload.length ≠ n → payload = [0x02])
        ∧ (requestLength frame.kind = none → payload = [0x03]))
    ∧ (s.link.served ≠ none ∨ s.restarting = true →
      ∀ i, frameOf? i = some frame → exec i heard = exec (.frameReceived chk) s)
    ∧ (s.link.served ≠ none ∨ s.restarting = true → s.link.limp = false →
      let waits : State := { heard with
        link := { heard.link with
          timer := 0, pendingFrame := some frame
          outbox := s.link.outbox.filter (fun o => !(o == .awaited)) ++ [.awaited] }
        events := match s.link.pendingFrame with
          | none => s.events
          | some old => s.events.set Event.linkOverrun.idx ⟨true, old.kind.toNat⟩ }
      exec (.frameReceived chk) s = .next waits)

/-- REPLY_SENT sends the first that is ready. With none ready nothing happens; a FRAME_ERROR leaves, though a place kept for
a later reply stands before it, and nothing else changes. With the served frame's reply, the served place is free, and
stays so where no frame is pending or a restart is to come; otherwise the pending frame becomes the served frame, its
request is taken then as its command takes it, in LIMP by the same take, or it is answered BAD_LENGTH or UNKNOWN_KIND,
and its reply takes the place kept for it since its check (R162, R163, R165, R174; that place is the model's form of
R163's order, log 16). Taking a pending frame restarts no link timer and ends no LIMP (R162). That REPLY_SENT does nothing
where nothing waits to be sent is the model's choice (log 34). -/
def Obligations.SentReplyFreesTheServedPlace : Prop :=
  ∀ s : State, s.powered = true →
    (∀ n status rest, s.link.outbox = List.replicate n .awaited ++ .frameError status :: rest →
      exec .replySent s = .next { s with link := { s.link with outbox := List.replicate n .awaited ++ rest } })
    ∧ (∀ n, s.link.outbox = List.replicate n .awaited → exec .replySent s = .next s)
    ∧ (∀ reply rest, s.link.outbox = .reply reply :: rest →
      let freed : State := { s with link := { s.link with served := none, outbox := rest } }
      (s.link.pendingFrame = none ∨ s.restarting = true → exec .replySent s = .next freed)
      ∧ (∀ frame before after, s.link.pendingFrame = some frame → s.restarting = false →
        rest = before ++ .awaited :: after → .awaited ∉ before →
        let taken : State := { freed with link := { freed.link with pendingFrame := none } }
        let placed := fun (t : State) (payload : Reply) => ({ t with
          link := { taken.link with
            served := some frame, outbox := before ++ .reply ⟨frame.kind + 0x80, payload⟩ :: after } } : State)
        (∃ t payload, exec .replySent s = .next (placed t payload)
          ∧ takeFrame frame { taken with link := { taken.link with served := some frame } } = (t, payload))
        ∧ (∀ i, frame.asks = .request i → s.link.limp = false → ∃ t payload, exec i taken = .next t
          ∧ t.link.outbox = rest ++ [.reply ⟨frame.kind + 0x80, payload⟩]
          ∧ exec .replySent s = .next (placed t payload))
        ∧ (∀ n, requestLength frame.kind = some n → frame.payload.length ≠ n →
          exec .replySent s = .next (placed taken [0x02]))
        ∧ (requestLength frame.kind = none → exec .replySent s = .next (placed taken [0x03]))))

/-! ### Requests of the link block -/

/-- HELLO answers part code 0x0416, revision A, store format 1 and the system class, and changes nothing beyond what a
valid frame does (R164); RESTART is refused with BUSY during a programming and otherwise is answered OK and awaits its
reply's last byte (R165); a KIND that no request has is answered UNKNOWN_KIND (R163, R174). -/
def Obligations.HelloRestartAndUnknownKind : Prop :=
  ∀ s : State, s.attentive →
    exec .hello s = .next (s.answered ⟨0x01, []⟩
      [0x00, 0x16, 0x04, 0x41, 0x01, match s.settings.supply.cls with
        | .volt12 => 0x00
        | .volt6 => 0x01])
    ∧ (s.store.programming = none →
        exec .restart s = .next { s.answered ⟨0x02, []⟩ [0x00] with restarting := true })
    ∧ (s.store.programming ≠ none → exec .restart s = .next (s.answered ⟨0x02, []⟩ [0x06]))
    ∧ (∀ kind, requestLength kind = none →
        exec (.unknownKindRequest kind) s = .next (s.answered ⟨kind, []⟩ [0x03]))

/-- READ_EVENTS returns the number and detail of every event whose flag is set, in order, and clears exactly those
flags; the details stay, nothing else changes, and ATTN is released (R170, R171). -/
def Obligations.ReadEventsReturnsAndClearsFlags : Prop :=
  ∀ s : State, s.attentive → ∃ t, exec .readEvents s = .next t
    ∧ t.link = s.linkAfter ⟨0x08, []⟩
        (0x00 :: ((List.finRange 16).filter fun e => (s.events[e]).flag).flatMap fun e =>
          [BitVec.ofNat 8 e.val, BitVec.ofNat 8 (s.events[e]).detail])
    ∧ (∀ e, (t.event e).flag = false ∧ (t.event e).detail = (s.event e).detail)
    ∧ t.attnLow = false
    ∧ t = { s with link := t.link, events := t.events }

/-- SET_EVENT and SET_ATTN_LEVEL write what they are given, the level and the threshold no higher than 7, and touch no
flag and no detail (R172); SET_LINK_TIMEOUT takes 0 as 0 and anything else into 500 to 10,000 ms (R166); and ATTN is
low exactly while some event has its flag set, its enable at 1 and its level above the threshold (R170). -/
def Obligations.AttentionSettingsAreTaken : Prop :=
  ∀ s : State, s.attentive →
    (∀ (e : Fin 16) (enable : Bool) (level : Nat),
      exec (.setEvent e.val (bit enable 1) level) s = .next { s.answered
          ⟨0x09, [BitVec.ofNat 8 e.val, BitVec.ofNat 8 (bit enable 1), BitVec.ofNat 8 level]⟩
          [0x00, BitVec.ofNat 8 e.val, BitVec.ofNat 8 (bit enable 1), BitVec.ofNat 8 (min level 7)] with
        settings := { s.settings with events := s.settings.events.set e ⟨enable, min level 7⟩ } })
    ∧ (∀ threshold : Nat,
      exec (.setAttnLevel threshold) s = .next { s.answered
          ⟨0x0A, [BitVec.ofNat 8 threshold]⟩ [0x00, BitVec.ofNat 8 (min threshold 7)] with
        settings := { s.settings with attnThreshold := min threshold 7 } })
    ∧ (∀ timeout : Nat,
      let taken := if timeout = 0 then 0 else max 500 (min 10000 timeout)
      exec (.setLinkTimeout timeout) s = .next { s.answered ⟨0x0B, u16 timeout⟩ (0x00 :: u16 taken) with
          settings := { s.settings with linkTimeout := taken } })
    ∧ (s.attnLow = true ↔ ∃ e : Fin 16, (s.events[e]).flag = true ∧ (s.settings.events[e]).enable = true
        ∧ s.settings.attnThreshold < (s.settings.events[e]).level)

/-! ### Requests on functions -/

/-- SET_DEMAND on a function that is not SWITCH_ONLY: the clamped value becomes link value and effective value, the
latch clears, a reservation on the function clears, the reply carries both, DEMAND_CHANGE is not set, and the
blocks take the change up; on a SWITCH_ONLY function it answers NOT_REMOTE and changes nothing else (R11). -/
def Obligations.SetDemandWritesTheLinkValue : Prop :=
  ∀ (s : State) (f : Fn) (value : Nat), s.attentive →
    (s.mode f ≠ .switchOnly → ∃ t, exec (.setDemand f.idx.val value) s = .next t
      ∧ t.fn f = ⟨(s.fn f).switch, some (min value f.maxValue), min value f.maxValue, false⟩
      ∧ t.reservation = (if s.reservation = some f then none else s.reservation)
      ∧ t.link = s.linkAfter ⟨0x11, u8 f.idx.val ++ u16 value⟩
          (u8 0 ++ u16 (min value f.maxValue) ++ u16 (min value f.maxValue))
      ∧ t.settings = s.settings ∧ t.event .demandChange = s.event .demandChange
      ∧ s.sameBeyondFunction t f)
    ∧ (s.mode f = .switchOnly →
      exec (.setDemand f.idx.val value) s
        = .next (s.answered ⟨0x11, u8 f.idx.val ++ u16 value⟩ (u8 0x0A)))

/-- READ_DEMAND answers the function's record and whether the reservation now names it; with the reserve flag the
reservation names the function, without it the reservation stays; nothing else changes (R16).
SET_DEMAND_IF: with the reservation on the function it writes as SET_DEMAND does and answers STORED; otherwise it
answers NOT_STORED with the present effective value and writes nothing; the reservation becomes absent either way; a
SWITCH_ONLY function answers NOT_REMOTE, a number above 12 BAD_ARG, and both keep the reservation (R17). -/
def Obligations.ReservationGuardsAConditionalWrite : Prop :=
  ∀ (s : State) (f : Fn) (value : Nat), s.attentive →
    (∀ reserve : Bool, exec (.readDemand f.idx.val (bit reserve 1)) s = .next
      { s.answered ⟨0x10, u8 f.idx.val ++ u8 (bit reserve 1)⟩
          (u8 0 ++ u16 (s.fn f).switch ++ truth (s.fn f).link.isSome ++ u16OrNone (s.fn f).link
            ++ u8 (s.mode f).code ++ u16 (s.fn f).effective ++ truth (s.fn f).latch
            ++ truth (reserve || s.reservation == some f)) with
        reservation := if reserve = true then some f else s.reservation })
    ∧ (s.mode f ≠ .switchOnly → s.reservation = some f →
      ∃ t, exec (.setDemandIf f.idx.val value) s = .next t
      ∧ t.fn f = ⟨(s.fn f).switch, some (min value f.maxValue), min value f.maxValue, false⟩
      ∧ t.reservation = none
      ∧ t.link = s.linkAfter ⟨0x12, u8 f.idx.val ++ u16 value⟩
          (u8 0 ++ u8 1 ++ u16 (min value f.maxValue) ++ u16 (min value f.maxValue))
      ∧ t.settings = s.settings ∧ t.event .demandChange = s.event .demandChange
      ∧ s.sameBeyondFunction t f)
    ∧ (s.mode f ≠ .switchOnly → s.reservation ≠ some f →
      exec (.setDemandIf f.idx.val value) s = .next { s.answered ⟨0x12, u8 f.idx.val ++ u16 value⟩
        (u8 0 ++ u8 0 ++ u16 0xFFFF ++ u16 (s.fn f).effective) with reservation := none })
    ∧ (s.mode f = .switchOnly →
      exec (.setDemandIf f.idx.val value) s
        = .next (s.answered ⟨0x12, u8 f.idx.val ++ u16 value⟩ (u8 0x0A)))
    ∧ (∀ n, 13 ≤ n →
      exec (.setDemandIf n value) s = .next (s.answered ⟨0x12, u8 n ++ u16 value⟩ (u8 0x04)))

/-- RELEASE_DEMAND on a function that is not SWITCH_ONLY: no link value, the latch clear, the effective value the switch
value in SHARED and the rest value in LINK_ONLY; SET_FUNCTION in any mode: the new mode, no link value under
SWITCH_ONLY, the effective value by the mode evaluation. Both clear a reservation on the function, answer the
effective value, and set no DEMAND_CHANGE; SET_FUNCTION of a number above 12 or an unknown mode answers BAD_ARG (R12,
R13). -/
def Obligations.ReleaseAndModeRewriteTheFunction : Prop :=
  ∀ (s : State) (f : Fn), s.attentive →
    (s.mode f ≠ .switchOnly →
      let back := if s.mode f = .shared then (s.fn f).switch else f.restValue
      ∃ t, exec (.releaseDemand f.idx.val) s = .next t
      ∧ t.fn f = ⟨(s.fn f).switch, none, back, false⟩
      ∧ t.reservation = (if s.reservation = some f then none else s.reservation)
      ∧ t.link = s.linkAfter ⟨0x13, u8 f.idx.val⟩ (u8 0 ++ u16 back)
      ∧ t.settings = s.settings ∧ t.event .demandChange = s.event .demandChange
      ∧ s.sameBeyondFunction t f)
    ∧ (s.mode f = .switchOnly →
      exec (.releaseDemand f.idx.val) s = .next (s.answered ⟨0x13, u8 f.idx.val⟩ (u8 0x0A)))
    ∧ (∀ mode : SourceMode,
      let link := if mode = .switchOnly then none else (s.fn f).link
      let value := if (s.fn f).latch = true then 0
        else match mode, link with
          | .switchOnly, _ => (s.fn f).switch
          | .linkOnly, none => f.restValue
          | .shared, none => (s.fn f).switch
          | .linkOnly, some v => v
          | .shared, some v => v
      ∃ t, exec (.setFunction f.idx.val mode.code) s = .next t
      ∧ t.fn f = ⟨(s.fn f).switch, link, value, (s.fn f).latch⟩
      ∧ t.reservation = (if s.reservation = some f then none else s.reservation)
      ∧ t.link = s.linkAfter ⟨0x14, u8 f.idx.val ++ u8 mode.code⟩ (u8 0 ++ u8 mode.code ++ u16 value)
      ∧ t.settings = { s.settings with modes := s.settings.modes.set f.idx mode }
      ∧ t.event .demandChange = s.event .demandChange
      ∧ s.sameBeyondFunction t f)
    ∧ (∀ n mode, 13 ≤ n ∨ 3 ≤ mode →
      exec (.setFunction n mode) s = .next (s.answered ⟨0x14, u8 n ++ u8 mode⟩ (u8 0x04)))

/-! ### Inputs -/

/-- SWITCH_RAW_CHANGE moves one pin: the raw level is active exactly near earth under active-to-earth and near the supply
under active-to-supply, the count restarts when the raw level changes, and nothing else changes (R1, R2). -/
def Obligations.PinMovesRestartTheCount : Prop :=
  ∀ (s : State) (i : Fin 12) (contact : Contact), ∃ t, exec (.switchRawChange i contact) s = .next t
    ∧ (t.raw i = true ↔ ((s.binding i).polarity = .activeToEarth ∧ contact = .earth)
        ∨ ((s.binding i).polarity = .activeToSupply ∧ contact = .supply))
    ∧ t = { s with inputs := s.inputs.set i ⟨contact, (s.input i).debounced,
        if t.raw i = s.raw i then (s.input i).count else 0⟩ }

/-- DEBOUNCE_EXPIRY at an input whose debounced state differs from its raw level, bound with LEVEL: the debounced state
takes the raw level, the count being the debounce time at least, and the function's switch value is found to be the
largest level value among the LEVEL inputs of the function that are ACTIVE then, or 0 (R2, R3, R5, R10, R15). -/
def Obligations.LevelEdgeEvaluatesItsFunction : Prop :=
  ∀ (s : State) (i : Fin 12) (f : Fn), s.powered = true →
    (s.binding i).function = some f → (s.binding i).action = .level →
    (s.input i).debounced ≠ (if s.raw i = true then .active else .inactive) →
    ∃ t v, exec (.debounceExpiry i) s = .next t
      ∧ t.input i = { s.input i with
          debounced := if s.raw i = true then .active else .inactive
          count := max (s.input i).count (s.binding i).debounce }
      ∧ (∀ j, j ≠ i → t.input j = s.input j)
      ∧ ({ s with inputs := t.inputs } : State).largestLevel f none v
      ∧ ({ s with inputs := t.inputs } : State).switchFound t f v true

/-- DEBOUNCE_EXPIRY under TOGGLE and STEP: on an activation edge from INACTIVE the switch value is found to be 0 or the level
value, or the next step modulo the maximum plus one; a release edge, a settlement, an unbound input and an input that
already holds its raw level leave every function as it was; the count is the debounce time at least (R2, R3, R6, R10). -/
def Obligations.PressMovesItsFunction : Prop :=
  ∀ (s : State) (i : Fin 12), s.powered = true →
    (∀ f, (s.binding i).function = some f → (s.binding i).action ≠ .level →
      (s.input i).debounced = .inactive → s.raw i = true →
      ∃ t, exec (.debounceExpiry i) s = .next t
        ∧ t.input i = { s.input i with
            debounced := .active, count := max (s.input i).count (s.binding i).debounce }
        ∧ (∀ j, j ≠ i → t.input j = s.input j)
        ∧ ({ s with inputs := t.inputs } : State).switchFound t f (if (s.binding i).action = .toggle
            then (if (s.fn f).switch = 0 then (s.binding i).level else 0)
            else ((s.fn f).switch + 1) % (f.maxValue + 1)) true)
    ∧ ((s.binding i).function = none
        ∨ ((s.binding i).action ≠ .level ∧ ((s.input i).debounced ≠ .inactive ∨ s.raw i = false))
        ∨ (s.input i).debounced = (if s.raw i = true then .active else .inactive) →
      ∃ t, exec (.debounceExpiry i) s = .next t
        ∧ t.input i = { s.input i with
            debounced := if s.raw i = true then .active else .inactive
            count := max (s.input i).count (s.binding i).debounce }
        ∧ (∀ j, j ≠ i → t.input j = s.input j) ∧ t = { s with inputs := t.inputs })

/-- SET_INPUT replaces the whole binding, level value and debounce time clamped, and answers it as stored; a polarity
change leaves the input UNSETTLED (R3, R4). The steps of R7 follow in their order, each a finding of a switch value on
behalf of the link, with the effects of R10 on record, latch and reservation and what follows from them for the fan
(R122, R128), the flasher, the channels, the supply record and the store, and no DEMAND_CHANGE: the LEVEL evaluation of
the function left, without the input; 0 for a function that had no input; the LEVEL evaluation of the function joined,
with the input; the rest value of a function left with no input. Nothing else changes (R7, R10, R15, R16). Only where
the polarity is kept and the count has already passed the debounce time does the input then settle, at once, as
DEBOUNCE_EXPIRY settles it (R2). The model's choices: a polarity change restarts the count (log 13), the steps one after
the other (log 14), and the settling as a debounced edge under the new binding (log 35). -/
def Obligations.BindingChangeIsNoEdge : Prop :=
  ∀ (s : State) (i : Fin 12) (function : Option Fn) (action : Action) (level : Nat) (polarity : Polarity)
    (debounce : Nat), s.attentive →
    let code := match function with
      | some f => f.idx.val
      | none => 0xFF
    let b : Binding :=
      { function := function, action := action
        level := match function with
          | some f => min level f.maxValue
          | none => 0
        polarity := polarity, debounce := max 5 (min 200 debounce) }
    let old := s.binding i
    let input : Input := if polarity = old.polarity then s.input i else ⟨(s.input i).contact, .unsettled, 0⟩
    let replaced : State := { s with
      settings := { s.settings with bindings := s.settings.bindings.set i b }
      inputs := s.inputs.set i input
      link := s.linkAfter
        ⟨0x15, u8 i.val ++ u8 code ++ u8 action.code ++ u16 level ++ u8 polarity.code ++ u8 debounce⟩
        (u8 0 ++ u8 code ++ u8 action.code ++ u16 b.level ++ u8 polarity.code ++ u8 b.debounce) }
    let hasNone := fun (u : State) (f : Fn) => ∀ j, (u.binding j).function ≠ some f
    ∃ left opened joined u t : State, exec (.setInput i.val code action.code level polarity.code debounce) s = .next t
      ∧ replaced.bindingStep left (if old.action = .level then old.function else none)
          (fun f value => replaced.largestLevel f (some i) value)
      ∧ left.bindingStep opened (function.filter fun g => decide (hasNone s g)) (fun _ value => value = 0)
      ∧ opened.bindingStep joined (if action = .level then function else none)
          (fun g value => replaced.largestLevel g none value)
      ∧ joined.bindingStep u (old.function.filter fun f => decide (hasNone replaced f))
          (fun f value => value = f.restValue)
      ∧ (if polarity = old.polarity ∧ b.debounce ≤ (s.input i).count then exec (.debounceExpiry i) u = .next t
        else t = u)

/-! ### Roles, the map and demand -/

/-- Every role's active state as the table gives it, from effective values and the charge condition; ARM_L and ARM_R follow
the indicators but not HAZARD (R23 to R28, R66). -/
def Obligations.RolesFollowTheirFunctions : Prop :=
  ∀ s : State,
    let side := fun f : Fn => s.eff .hazard = 1 ∨ (s.eff f = 1 ∧ s.eff .ign = 1)
    (s.roleActive .side = true ↔ s.eff .side = 1)
    ∧ (s.roleActive .dip = true ↔ s.eff .head = 1 ∧ s.eff .beam = 0)
    ∧ (s.roleActive .main = true ↔ s.eff .head = 1 ∧ s.eff .beam = 1)
    ∧ (s.roleActive .indL = true ↔ side .indL) ∧ (s.roleActive .indR = true ↔ side .indR)
    ∧ (s.roleActive .stop = true ↔ s.eff .stop = 1)
    ∧ (s.roleActive .instr = true ↔ s.eff .side = 1 ∧ 0 < s.eff .instr)
    ∧ (s.roleActive .interior = true ↔ s.eff .interior = 1)
    ∧ (s.roleActive .fog = true ↔ s.eff .fog = 1 ∧ s.eff .side = 1)
    ∧ (s.roleActive .reverse = true ↔ s.eff .reverse = 1 ∧ s.eff .ign = 1)
    ∧ (s.roleActive .chargeTell = true ↔ s.supply.charge = true)
    ∧ (s.roleActive .indTell = true ↔ side .indL ∨ side .indR)
    ∧ (s.roleActive .mainTell = true ↔ s.eff .head = 1 ∧ s.eff .beam = 1)
    ∧ (s.roleActive .armL = true ↔ s.eff .indL = 1 ∧ s.eff .ign = 1)
    ∧ (s.roleActive .armR = true ↔ s.eff .indR = 1 ∧ s.eff .ign = 1)

/-- The views and readings that other statements name. What each state of a channel conducts at (R45, R63); the charge
condition, with IGN 1 and the DYN mean below the BAT mean minus the margin, and the store supply condition, outside CRANK
with the BAT mean at or above the store minimum, both false without a mean (R27, R139, R146); a current in steps of
10 mA up to the top of its range, a voltage to the nearest 10 mV up to 25,000, a resistance to the nearest tenth of an
ohm up to 5000 (R41, R84, R110, R119, R133). Between two steps, and exactly half way, the reading is a free value
(logs 5, 6, 7). -/
def Obligations.ViewsAndReadingsFollowTheirRules : Prop :=
  (∀ (s : State) (c : Fin 16), s.dutyNow c = match (s.channel c).state with
    | .inrush => s.driveDuty c
    | .on => s.driveDuty c
    | .pullIn => 1000
    | .hold => (s.channelConfig c).holdDuty
    | .off => 0
    | .tripWait => 0
    | .lockedOff => 0)
  ∧ (∀ s : State, (s.chargeCondition = true ↔ s.eff .ign = 1 ∧ s.supply.batMean ≠ none ∧ s.supply.dynMean ≠ none
      ∧ (s.supply.dynMean.getD 0 : Int) < (s.supply.batMean.getD 0 : Int) - s.settings.supply.chargeMargin)
    ∧ (s.storeCondition = true ↔ s.supply.state ≠ .crank ∧ s.supply.batMean ≠ none
      ∧ s.settings.supply.storeMinimum ≤ s.supply.batMean.getD 0))
  ∧ (∀ top milliamps : Nat, ∃ steps, currentReading top milliamps = min top (10 * steps)
      ∧ 10 * steps < milliamps + 10 ∧ milliamps < 10 * steps + 10)
  ∧ (∀ millivolts : Nat, ∃ steps, voltageReading millivolts = min 25000 (10 * steps)
      ∧ 10 * steps ≤ millivolts + 5 ∧ millivolts ≤ 10 * steps + 5)
  ∧ (∀ milliohms : Nat, ∃ tenths, senderReading (.resistance milliohms) = min 5000 tenths
      ∧ 100 * tenths ≤ milliohms + 50 ∧ milliohms ≤ 100 * tenths + 50)

/-- What a channel is called to do. An entry acts on it while it is enabled, covers it, and its role is active and of a
class below the shed level: 4 in NORMAL, 3 in LEAN, 2 in SHED, 1 in CRANK. Its own demand is flash where a flashing role
acts, otherwise steady at the largest duty among those that act, INSTR's being its effective value and any other's 1000.
A channel carries it to its substitute while it has one, is OPEN-flagged or in LOCKED_OFF and not in TRIP_WAIT; the two
indications tell of either end. The composed demand is flash exactly while the own demand or some carried demand is
flash, none exactly while there is neither own nor carried demand, and otherwise steady at exactly the largest duty among
them. Flash calls the channel at 1000 in ON_PHASE alone, steady calls it at the composed duty, and none does not (R23,
R25, R29, R34, R36, R37, R38, R46, R139). That an OPEN-flagged channel goes on carrying when CLEAR_CHANNEL unlocks it is
the model's choice (log 36). -/
def Obligations.CallsFollowTheMap : Prop :=
  ∀ (s : State) (c : Fin 16),
    let level := match s.supply.state with
      | .normal => 4
      | .lean => 3
      | .shed => 2
      | .crank => 1
    let acts := fun e : MapEntry => e.enabled = true ∧ e.first ≤ c ∧ c ≤ e.last
      ∧ s.roleActive e.role = true ∧ s.shedClass e.role < level
    let flashes := fun e : MapEntry => e.role = .indL ∨ e.role = .indR ∨ e.role = .indTell
    let duty := fun e : MapEntry => if e.role = .instr then s.eff .instr else 1000
    (s.ownDemand c = .flash ↔ ∃ k, acts (s.mapEntry k) ∧ flashes (s.mapEntry k))
    ∧ (s.ownDemand c = .none ↔ ∀ k, ¬ acts (s.mapEntry k))
    ∧ (∀ d, s.ownDemand c = .steady d → (∀ k, acts (s.mapEntry k) → duty (s.mapEntry k) ≤ d)
        ∧ ∃ k, acts (s.mapEntry k) ∧ duty (s.mapEntry k) = d)
    ∧ (∀ x, s.carriesTo c x = true ↔ (s.channelConfig c).substitute = some x
        ∧ ((s.channel c).openFlag = true ∨ (s.channel c).state = .lockedOff) ∧ (s.channel c).state ≠ .tripWait
        ∧ s.ownDemand c ≠ .none)
    ∧ (s.carrying c = true ↔ ∃ x, s.carriesTo c x = true)
    ∧ (s.receiving c = true ↔ ∃ x, s.carriesTo x c = true)
    ∧ (s.composedDemand c = .flash ↔ s.ownDemand c = .flash ∨ ∃ x, s.carriesTo x c = true ∧ s.ownDemand x = .flash)
    ∧ (s.composedDemand c = .none ↔ s.ownDemand c = .none ∧ ∀ x, s.carriesTo x c = false)
    ∧ (∀ d, s.composedDemand c = .steady d →
      (∀ own, s.ownDemand c = .steady own → own ≤ d)
      ∧ (∀ x carried, s.carriesTo x c = true → s.ownDemand x = .steady carried → carried ≤ d)
      ∧ (s.ownDemand c = .steady d ∨ ∃ x, s.carriesTo x c = true ∧ s.ownDemand x = .steady d))
    ∧ (s.composedDemand c = .flash → s.called c = (s.flasher.cadence == .onPhase) ∧ s.driveDuty c = 1000)
    ∧ (∀ d, s.composedDemand c = .steady d → s.called c = true ∧ s.driveDuty c = d)
    ∧ (s.composedDemand c = .none → s.called c = false)

/-- SET_MAP replaces an entry whose last channel is not below its first, where the entry is disabled or keeps its role and
channels; an enabled entry that would change them answers IN_USE, a last channel below the first BAD_ARG; SET_ROLE
sets the shed class, no higher than 3. The blocks take either up at once (R30, R32, R35). -/
def Obligations.MapAndRoleTakeEffectAtOnce : Prop :=
  ∀ s : State, s.attentive →
    (∀ (e : Fin 16) (r : Role) (a b : Fin 16) (on : Bool),
      let frame : Frame := ⟨0x20, u8 e.val ++ u8 r.idx.val ++ u8 a.val ++ u8 b.val ++ u8 (bit on 1)⟩
      let held := s.mapEntry e
      (a ≤ b → held.enabled = false ∨ (held.role = r ∧ held.first = a ∧ held.last = b) →
        ∃ t, exec (.setMap e.val r.idx.val a.val b.val (bit on 1)) s = .next t
          ∧ ({ s with
              settings := { s.settings with map := s.settings.map.set e ⟨r, a, b, on⟩ }
              link := s.linkAfter frame
                (u8 0 ++ u8 e.val ++ u8 r.idx.val ++ u8 a.val ++ u8 b.val ++ truth on) }
              : State).settledAs t)
      ∧ (a ≤ b → held.enabled = true → ¬ (held.role = r ∧ held.first = a ∧ held.last = b) →
        exec (.setMap e.val r.idx.val a.val b.val (bit on 1)) s = .next (s.answered frame (u8 0x05)))
      ∧ (b < a →
        exec (.setMap e.val r.idx.val a.val b.val (bit on 1)) s = .next (s.answered frame (u8 0x04))))
    ∧ (∀ (r : Role) (cls : Nat), ∃ t, exec (.setRole r.idx.val cls) s = .next t
      ∧ ({ s with
          settings := { s.settings with shedClasses := s.settings.shedClasses.set r.idx (min cls 3) }
          link := s.linkAfter ⟨0x25, u8 r.idx.val ++ u8 cls⟩ (u8 0 ++ u8 r.idx.val ++ u8 (min cls 3)) }
          : State).settledAs t)

/-! ### Requests that only read -/

/-- READ_INPUTS, READ_MAP, READ_CHANNEL and READ_FLASHER answer what the state shows, in the order of R176, and change
nothing (R8, R33, R63, R81); a composed demand that is none or flash is sent with a duty of 0 (the model's choice, log 37).
READ_SENDER, READ_FAN, TABLE_READ and READ_STORE answer what the state shows, in the order of R176, and change nothing;
READ_GAUGE and READ_SUPPLY do so without the clear option, and with it clear SUM, or LOW_SEEN and MIN_BAT, after the
reply has been formed (R92, R116, R131, R147, R148, R158, R159); a stopped settle timer is sent with an elapsed time of 0
(the model's choice, log 38). -/
def Obligations.ReadsAnswerWhatTheStateShows : Prop :=
  (∀ s : State, s.attentive →
     (∀ i : Fin 12,
       let b := s.binding i
       exec (.readInputs i.val) s = .next (s.answered ⟨0x16, u8 i.val⟩
         (u8 0 ++ (List.finRange 12).flatMap (fun j => truth (s.raw j))
           ++ (List.finRange 12).flatMap (fun j => u8 (s.input j).debounced.code)
           ++ u8OrNone (b.function.map fun f => f.idx.val) ++ u8 b.action.code ++ u16 b.level
           ++ u8 b.polarity.code ++ u8 b.debounce)))
     ∧ (∀ e : Fin 16,
       let m := s.mapEntry e
       exec (.readMap e.val) s = .next (s.answered ⟨0x21, u8 e.val⟩
         (u8 0 ++ u8 m.role.idx.val ++ u8 m.first.val ++ u8 m.last.val ++ truth m.enabled
           ++ truth (s.roleActive m.role) ++ u8 (s.shedClass m.role)
           ++ truth (decide (s.supply.state.shedLevel ≤ s.shedClass m.role)))))
     ∧ (∀ c : Fin 16,
       let x := s.channel c
       let k := s.channelConfig c
       exec (.readChannel c.val) s = .next (s.answered ⟨0x23, u8 c.val⟩
         (u8 0 ++ u8 x.state.code ++ u16 (s.dutyNow c) ++ u16 x.current ++ truth x.openFlag
           ++ u8 x.tripCount
           ++ (match s.composedDemand c with
             | .none => u8 0 ++ u16 0
             | .steady d => u8 1 ++ u16 d
             | .flash => u8 2 ++ u16 0)
           ++ truth (s.receiving c) ++ truth (s.carrying c)
           ++ u8 k.profile.code ++ u16 k.inrushWindow ++ u16 k.pullIn ++ u16 k.holdDuty ++ u16 k.runLimit
           ++ u16 k.inrushLimit ++ u16 k.openThreshold ++ u8OrNone (k.substitute.map fun x => x.val))))
     ∧ (let f := s.flasher
       exec .readFlasher s = .next (s.answered ⟨0x27, []⟩
         (u8 0 ++ u8 f.cadence.code ++ u16 f.phaseTimer ++ u16 f.phaseLength ++ truth f.doubled
           ++ u8 (bit (s.sideActive .left) 1 + bit (s.sideActive .right) 2)
           ++ u8 (bit (s.throughIndicator .left) 1 + bit (s.throughIndicator .right) 2)
           ++ u8 s.settings.flashRate ++ u16 s.settings.runOnLimit
           ++ u32 (f.leftRunOn.getD 0) ++ u32 (f.rightRunOn.getD 0)))))
  ∧ (∀ s : State, s.attentive →
       (∀ n : Fin 4,
         let x := s.sender n
         exec (.readSender n.val) s = .next (s.answered ⟨0x34, u8 n.val⟩
           (u8 0 ++ truth x.latest.isSome ++ u16 (x.latest.getD 0) ++ u8 (bandCode x.band) ++ u8 x.runCount
             ++ u8 x.state.code ++ u16 (s.senderConfig n).shortAt ++ u16 (s.senderConfig n).openAt)))
       ∧ (let f := s.fan
         let k := s.settings.fan
         exec .readFan s = .next (s.answered ⟨0x41, []⟩
           (u8 0 ++ u8 f.state.code ++ u16 f.dutyNow ++ u8 f.targetStep ++ u16 s.fanTarget ++ u16 s.fanCap
             ++ truth f.settle.isSome ++ u16 (f.settle.getD 0) ++ u16 f.current ++ u8 f.stallCount
             ++ truth f.openFlag ++ u16 f.waitTimer
             ++ u16 0 ++ u16 k.duty1 ++ u16 k.duty2 ++ u16 k.duty3 ++ u16 k.rampStep ++ u16 k.settleWindow
             ++ u16 k.stallLimit ++ truth k.ignitionFed)))
       ∧ (∀ (p : Fin 8) (index : Nat),
         exec (.tableRead p.val index) s = .next (s.answered ⟨0x53, u8 p.val ++ u8 index⟩
           (match s.tables[p][index]? with
             | some q => u8 0 ++ u16 q.x ++ u16 q.y ++ u8 s.tables[p].length
             | none => u8 0x04)))
       ∧ (let st := s.store
         exec .readStore s = .next (s.answered ⟨0x55, []⟩
           (u8 0 ++ truth st.programming.isSome ++ u8OrNone (st.programming.map fun p => p.image.page.val)
             ++ (List.finRange 8).flatMap (fun p => truth (st.tablePages[p]).isSome)
             ++ truth st.settingsPage.isSome
             ++ u8OrNone (st.failure.map fun f => f.page.val)
             ++ u8OrNone (st.failure.map fun f => f.cause.code)
             ++ u8OrNone (st.staging.map fun b => b.table.val)
             ++ u8OrNone (st.staging.map fun b => b.pointer)
             ++ u8OrNone (st.staging.map fun b => b.length))))
       ∧ (∀ (g : Fin 4) (clear : Bool),
         let x := s.gauge g
         let k := s.gaugeConfig g
         let waits := decide (x.driver = .waiting)
         exec (.readGauge g.val (bit clear 1)) s = .next
           { s.answered ⟨0x31, u8 g.val ++ u8 (bit clear 1)⟩
             (u8 0 ++ u8OrNone (k.binding.map fun n => n.val) ++ u8 k.law.code ++ u16 k.k ++ u8 k.policy.code
               ++ u16 x.linkPosition ++ u16 x.target ++ u16 x.filtered ++ u16 x.required ++ u16 x.duty
               ++ u8 (bit x.low 1 + bit x.high 2 + bit x.sat 4 + bit x.fault 8 + bit waits 16 + bit x.sum 32)
               ++ u8 (bit waits 1) ++ u16 (if waits = true ∨ x.duty = 0 then 0 else x.driverSample)) with
             gauges := if clear = true then s.gauges.set g { x with sum := false } else s.gauges })
       ∧ (∀ clear : Bool,
         let p := s.supply
         let k := s.settings.supply
         exec (.readSupply (bit clear 1)) s = .next
           { s.answered ⟨0x43, u8 (bit clear 1)⟩
             (u8 0 ++ u8 p.state.code ++ truth p.batMean.isSome ++ u16 (p.batMean.getD 0)
               ++ u16 (p.dynMean.getD 0) ++ u32 p.totalLoad ++ truth p.charge ++ truth s.storeCondition
               ++ truth p.armed
               ++ [p.timers.lean, p.timers.budget, p.timers.recovery, p.timers.shed, p.timers.unshed,
                   p.timers.crankExit, p.timers.crankLimit].flatMap
                 (fun t => u16 (t.seconds * 1000 + t.slots * 10))
               ++ truth p.lowSeen ++ u16OrNone p.minBat
               ++ u8 k.cls.code ++ u16 k.lean ++ u16 k.shed ++ u16 k.crankEnter ++ u16 k.crankExit
               ++ u16 k.hysteresis ++ u16 k.chargeMargin ++ u16 k.storeMinimum ++ u16 k.budget) with
             supply := if clear = true then { p with lowSeen := false, minBat := p.batMean } else p }))

/-! ### Power channels -/

/-- SET_CHANNEL on a channel in OFF or LOCKED_OFF takes every field into its range, the run limit by the channel's group and
the inrush limit no lower than it, and answers it as taken; in any other state it answers IN_USE, and a channel named
as its own substitute BAD_ARG (R41, R42, R43, R44). -/
def Obligations.ChannelSettingsAreTakenInRange : Prop :=
  ∀ (s : State) (c : Fin 16) (profile : Profile) (inrush pullIn hold run limit openAt : Nat)
    (substitute : Option (Fin 16)), s.attentive →
    let code := match substitute with
      | some x => x.val
      | none => 0xFF
    let command := Instr.setChannel c.val profile.code inrush pullIn hold run limit openAt code
    let frame : Frame := ⟨0x22, u8 c.val ++ u8 profile.code ++ u16 inrush ++ u16 pullIn ++ u16 hold ++ u16 run
      ++ u16 limit ++ u16 openAt ++ u8 code⟩
    let runLimit := if c.val < 8 then max 1000 (min 20000 run) else max 250 (min 6000 run)
    let top := if c.val < 8 then 40000 else 10000
    let k : ChannelConfig :=
      { profile := profile
        inrushWindow := if inrush = 0 then (if profile = .led then 5 else 100) else max 5 (min 500 inrush)
        pullIn := max 50 (min 1000 pullIn), holdDuty := max 200 (min 1000 hold), runLimit := runLimit
        inrushLimit := max runLimit (min top limit), openThreshold := max 20 (min 2000 openAt)
        substitute := substitute }
    let off : Prop := (s.channel c).state = .off ∨ (s.channel c).state = .lockedOff
    (substitute ≠ some c → off → ∃ t, exec command s = .next t
      ∧ ({ s with
          settings := { s.settings with channels := s.settings.channels.set c k }
          link := s.linkAfter frame (u8 0 ++ u8 c.val ++ u8 profile.code ++ u16 k.inrushWindow ++ u16 k.pullIn
            ++ u16 k.holdDuty ++ u16 k.runLimit ++ u16 k.inrushLimit ++ u16 k.openThreshold ++ u8 code) }
          : State).settledAs t)
    ∧ (substitute ≠ some c → ¬ off → exec command s = .next (s.answered frame (u8 0x05)))
    ∧ (substitute = some c → exec command s = .next (s.answered frame (u8 0x04)))

/-- CLEAR_CHANNEL returns the trip count to 0, takes LOCKED_OFF to OFF, from which a called channel begins an activation
at once, and leaves every other state of the channel as it is; the reply carries the state it ends in; a number above
15 answers BAD_ARG (R62). That an OPEN-flagged channel goes on carrying its demand when it is unlocked is the model's
choice (log 36). -/
def Obligations.ClearChannelUnlocksIt : Prop :=
  ∀ s : State, s.attentive →
    (∀ c : Fin 16, ∃ t, exec (.clearChannel c.val) s = .next t
      ∧ (t.channel c).tripCount = 0 ∧ (t.channel c).state ≠ .lockedOff
      ∧ ({ s with
          channels := s.channels.set c { s.channel c with
            tripCount := 0
            state := if (s.channel c).state = .lockedOff then .off else (s.channel c).state }
          link := s.linkAfter ⟨0x24, u8 c.val⟩ (u8 0 ++ u8 (t.channel c).state.code ++ u8 0) }
          : State).settledAs t)
    ∧ (∀ n, 16 ≤ n → exec (.clearChannel n) s = .next (s.answered ⟨0x24, u8 n⟩ (u8 0x04)))

/-- The timers of an activation. INRUSH_END takes INRUSH to ON and PULL_IN_END takes PULL_IN to HOLD, with the good-run timer
and the runs from zero and the activation timer at its window at least; TRIP_WAIT_END takes TRIP_WAIT to OFF, from
which a called channel begins an activation; GOOD_RUN_EXPIRY returns the trip count of a channel in ON or HOLD to 0.
In any other state of the channel each changes nothing (R48 to R51, R58, R61). That the wait timer stands at 0 outside
TRIP_WAIT, and the activation timer in OFF, is the model's choice (log 40). -/
def Obligations.ActivationTimersMoveTheChannel : Prop :=
  ∀ (s : State) (c : Fin 16), s.powered = true →
    let x := s.channel c
    let k := s.channelConfig c
    let put := fun y : Channel => ({ s with channels := s.channels.set c y } : State)
    (x.state = .inrush → exec (.inrushEnd c) s = .next (put { x with
        state := .on, activation := max x.activation k.inrushWindow, lowRun := none, highRun := none
        goodRun := 0 }))
    ∧ (x.state ≠ .inrush → exec (.inrushEnd c) s = .next s)
    ∧ (x.state = .pullIn → exec (.pullInEnd c) s = .next (put { x with
        state := .hold, activation := max x.activation k.pullIn, lowRun := none, highRun := none
        goodRun := 0 }))
    ∧ (x.state ≠ .pullIn → exec (.pullInEnd c) s = .next s)
    ∧ (x.state = .tripWait → ∃ t, exec (.tripWaitEnd c) s = .next t
        ∧ (put { x with
            state := .off, activation := 0, lowRun := none, highRun := none, goodRun := 0, wait := 0 }).settledAs t)
    ∧ (x.state ≠ .tripWait → exec (.tripWaitEnd c) s = .next s)
    ∧ (x.state = .on ∨ x.state = .hold →
        exec (.goodRunExpiry c) s = .next (put { x with tripCount := 0, goodRun := max 10000 x.goodRun }))
    ∧ (x.state ≠ .on → x.state ≠ .hold → exec (.goodRunExpiry c) s = .next s)

/-- A CHANNEL_SAMPLE whose reading is no trip: it becomes the latest current, and in ON or HOLD outside CRANK a reading below
the open threshold keeps the low run and holds the high run at zero, any other the reverse; nothing else changes (R41,
R53, R54, R56, R57).
The open test of a channel in ON or HOLD outside CRANK. LAMP_OPEN_DETECT with the low run running sets the OPEN flag, and
LAMP_OPEN with the channel where the flag was clear; LAMP_OPEN_CLEAR with the high run running clears the flag and sets
no event; either reaches carrying and the flasher at once. Without its run, in another state or in CRANK neither does
anything (R36, R53, R54, R56). That a run starts at 0 with its first sample, and that without a run the two rows do
nothing, is the model's reading (log 31). -/
def Obligations.OpenTestRunsOnQuietSamples : Prop :=
  (∀ (s : State) (c : Fin 16) (milliamps : Nat), s.powered = true →
     let x := s.channel c
     let k := s.channelConfig c
     let top := if c.val < 8 then 40000 else 10000
     let reading := currentReading top milliamps
     let tested : Prop := (x.state = .on ∨ x.state = .hold) ∧ s.supply.state ≠ .crank
     let put := fun y : Channel => ({ s with channels := s.channels.set c y } : State)
     (x.state = .inrush ∨ x.state = .pullIn → reading ≤ k.inrushLimit ∧ reading < top) →
     (x.state = .on ∨ x.state = .hold → reading ≤ k.runLimit ∧ reading < top) →
     (tested → reading < k.openThreshold → exec (.channelSample c milliamps) s = .next (put { x with
       current := reading, lowRun := some (x.lowRun.getD 0), highRun := none }))
     ∧ (tested → k.openThreshold ≤ reading → exec (.channelSample c milliamps) s = .next (put { x with
       current := reading, lowRun := none, highRun := some (x.highRun.getD 0) }))
     ∧ (¬ tested → exec (.channelSample c milliamps) s = .next (put { x with current := reading })))
  ∧ (∀ (s : State) (c : Fin 16), s.powered = true →
       let x := s.channel c
       let tested : Prop := (x.state = .on ∨ x.state = .hold) ∧ s.supply.state ≠ .crank
       (tested → x.lowRun ≠ none → ∃ t, exec (.lampOpenDetect c) s = .next t
         ∧ (t.channel c).openFlag = true
         ∧ (x.openFlag = true →
             t = { s with channels := s.channels.set c { x with lowRun := some 50, openFlag := true } })
         ∧ (x.openFlag = false → ({ s with
             channels := s.channels.set c { x with lowRun := some 50, openFlag := true }
             events := s.events.set Event.lampOpen.idx ⟨true, c.val⟩ } : State).settledAs t))
       ∧ (¬ tested ∨ x.lowRun = none → exec (.lampOpenDetect c) s = .next s)
       ∧ (tested → x.highRun ≠ none → ∃ t, exec (.lampOpenClear c) s = .next t
         ∧ (t.channel c).openFlag = false
         ∧ ({ s with channels := s.channels.set c { x with highRun := x.highRun.map (max 50), openFlag := false } }
             : State).settledAs t)
       ∧ (¬ tested ∨ x.highRun = none → exec (.lampOpenClear c) s = .next s))

/-- A CHANNEL_SAMPLE above the limit in force, or at the top of the range, in a conducting state is a trip: the channel
stops conducting, the trip count rises, LAMP_SHORT takes the channel; it waits at the first and second trip and locks
off with CHANNEL_LOCKED at the third; what it carries to its substitute is taken up at once (R36, R41, R57, R59). That the
abandoned activation timer, and the wait timer in LOCKED_OFF, stand at 0 is the model's choice (log 40). -/
def Obligations.TripStopsTheChannel : Prop :=
  ∀ (s : State) (c : Fin 16) (milliamps : Nat), s.powered = true →
    let x := s.channel c
    let k := s.channelConfig c
    let top := if c.val < 8 then 40000 else 10000
    let reading := currentReading top milliamps
    ((x.state = .inrush ∨ x.state = .pullIn) ∧ (k.inrushLimit < reading ∨ top ≤ reading))
      ∨ ((x.state = .on ∨ x.state = .hold) ∧ (k.runLimit < reading ∨ top ≤ reading)) →
    ∃ t, exec (.channelSample c milliamps) s = .next t
      ∧ (x.tripCount < 2 →
          t.channel c = ⟨.tripWait, x.tripCount + 1, x.openFlag, 0, none, none, 0, 0, reading⟩
          ∧ t.event .channelLocked = s.event .channelLocked)
      ∧ (2 ≤ x.tripCount →
          t.channel c = ⟨.lockedOff, 3, x.openFlag, 0, none, none, 0, 0, reading⟩
          ∧ t.event .channelLocked = ⟨true, c.val⟩)
      ∧ t.event .lampShort = ⟨true, c.val⟩
      ∧ ({ s with
          channels := s.channels.set c (t.channel c)
          events := (s.events.set Event.lampShort.idx (t.event .lampShort)).set Event.channelLocked.idx
            (t.event .channelLocked) } : State).settledAs t

/-! ### The flasher -/

/-- PHASE_BOUNDARY with some side active turns the phase round from zero; an active side with a channel under its enabled
indicator entries OPEN-flagged or LOCKED_OFF doubles the rate, and the phase lasts 30,000 over the rate, or over
twice the rate, to the nearest millisecond, an exact half up; the flashing channels follow the phase. In IDLE it does
nothing (R69, R72, R73). -/
def Obligations.PhaseBoundaryTurnsThePhase : Prop :=
  ∀ s : State, s.powered = true →
    (s.flasher.cadence = .idle → exec .phaseBoundary s = .next s)
    ∧ (s.flasher.cadence ≠ .idle → s.anySide = true →
      ∃ t, exec .phaseBoundary s = .next t
        ∧ t.flasher.cadence = (if s.flasher.cadence = .onPhase then .offPhase else .onPhase)
        ∧ t.flasher.phaseTimer = 0
        ∧ t.phaseFixed
        ∧ ({ s with flasher := { t.flasher with
            leftRunOn := s.flasher.leftRunOn, rightRunOn := s.flasher.rightRunOn } } : State).settledAs t)

/-- RUN_ON_EXPIRY with the side's timer running cancels the side, its own indicator alone; with the timer stopped nothing
happens (R14, R15, R77).
SET_FLASHER takes the rate into 60 to 120 and the run-on limit into 10 to 300 s, or 0 as 0, both at once, and answers
them; a phase that runs keeps its length; a running timer below the new limit goes on, and a side whose timer is not
below it is cancelled, the left before the right where both are (R79, R80; that order is the model's choice, log 17). -/
def Obligations.RunOnLimitCancelsItsSide : Prop :=
  (∀ (s : State) (side : Side), s.powered = true →
     (s.runOn side ≠ none → ∃ t, exec (.runOnExpiry side) s = .next t ∧ s.cancelledAs t side)
     ∧ (s.runOn side = none → exec (.runOnExpiry side) s = .next s))
  ∧ (∀ (s : State) (rate limit : Nat), s.attentive →
       let rate' := max 60 (min 120 rate)
       let limit' := if limit = 0 then 0 else max 10 (min 300 limit)
       let taken : State := { s with
         settings := { s.settings with flashRate := rate', runOnLimit := limit' }
         link := s.linkAfter ⟨0x26, u8 rate ++ u16 limit⟩ (u8 0 ++ u8 rate' ++ u16 limit') }
       let below := fun side : Side => limit' = 0 ∨ s.throughIndicator side = false
         ∨ (s.runOn side).getD 0 < limit' * 1000
       (below .left → below .right →
         ∃ t, exec (.setFlasher rate limit) s = .next t ∧ taken.settledAs t)
       ∧ (s.CallsFollowed → s.ConditionsFollowed →
         (∀ side other : Side, side ≠ other → ¬ below side → below other →
           ∃ t, exec (.setFlasher rate limit) s = .next t ∧ taken.cancelledAs t side)
         ∧ (¬ below .left → ¬ below .right →
           ∃ u t, exec (.setFlasher rate limit) s = .next t
             ∧ taken.cancelledAs u .left ∧ u.cancelledAs t .right)))

/-! ### Senders and gauges -/

/-- SET_GAUGE takes the four settings, k into 1 to 256; SET_GAUGE_POSITION on a gauge without a sender takes the position, no
higher than 1000, and on a gauge with one answers IN_USE; SET_SENDER takes the thresholds into their ranges and
empties the band run; each answers what it took and changes nothing else (R91, R114, R115). -/
def Obligations.GaugeAndSenderSettingsAreTaken : Prop :=
  ∀ s : State, s.attentive →
    (∀ (g : Fin 4) (binding : Option (Fin 4)) (law : Law) (k : Nat) (policy : Policy),
      let code := match binding with
        | some n => n.val
        | none => 0xFF
      exec (.setGauge g.val code law.code k policy.code) s = .next
        { s.answered ⟨0x30, u8 g.val ++ u8 code ++ u8 law.code ++ u16 k ++ u8 policy.code⟩
            (u8 0 ++ u8 code ++ u8 law.code ++ u16 (max 1 (min 256 k)) ++ u8 policy.code) with
          settings := { s.settings with
            gauges := s.settings.gauges.set g ⟨binding, law, max 1 (min 256 k), policy⟩ } })
    ∧ (∀ (g : Fin 4) (position : Nat),
      let frame : Frame := ⟨0x32, u8 g.val ++ u16 position⟩
      ((s.gaugeConfig g).binding = none →
        exec (.setGaugePosition g.val position) s = .next
          { s.answered frame (u8 0 ++ u16 (min position 1000)) with
            gauges := s.gauges.set g { s.gauge g with linkPosition := min position 1000 } })
      ∧ ((s.gaugeConfig g).binding ≠ none →
        exec (.setGaugePosition g.val position) s = .next (s.answered frame (u8 0x05))))
    ∧ (∀ (n : Fin 4) (short openAt : Nat),
      exec (.setSender n.val short openAt) s = .next
        { s.answered ⟨0x33, u8 n.val ++ u16 short ++ u16 openAt⟩
            (u8 0 ++ u8 n.val ++ u16 (min 100 short) ++ u16 (max 1000 (min 5000 openAt))) with
          settings := { s.settings with
            senders := s.settings.senders.set n ⟨min 100 short, max 1000 (min 5000 openAt)⟩ }
          senders := s.senders.set n { s.sender n with band := none, runCount := 0 } })

/-- SENDER_SAMPLE: the reading, to the nearest tenth of an ohm and no higher than 5000, a broken wire and a pin held at a
voltage read as 5000, becomes the latest sample; an exact half reads as either neighbour, a free value (log 7); the band
is LOW below the short threshold, HIGH at or above the open threshold, VALID between; the run goes on in the same band
up to 3 and starts again in another; at 3 the state is the one the band points to, and a state that becomes OPEN or
SHORTED sets GAUGE_FAULT with 16 plus the sender's number; nothing else changes (R84 to R88). -/
def Obligations.SenderStateFollowsThreeReadings : Prop :=
  ∀ (s : State) (n : Fin 4) (pin : SenderPin), s.powered = true →
    let x := s.sender n
    let k := s.senderConfig n
    ∃ reading : Nat,
    (match pin with
      | .resistance r => ∃ tenths, reading = min 5000 tenths ∧ 100 * tenths ≤ r + 50 ∧ r ≤ 100 * tenths + 50
      | .broken => reading = 5000
      | .live => reading = 5000) ∧
    let band := if reading < k.shortAt then Band.low else if reading < k.openAt then .valid else .high
    let count := if x.band = some band then min 3 (x.runCount + 1) else 1
    let state := if count = 3 then (match band with
      | .low => SenderState.shorted
      | .valid => .ok
      | .high => .open) else x.state
    exec (.senderSample n pin) s = .next { s with
      senders := s.senders.set n ⟨some reading, some band, count, state⟩
      events := if state = x.state ∨ state = .ok then s.events
        else s.events.set Event.gaugeFault.idx ⟨true, 16 + n.val⟩ }

/-- The lookup of a table whose x values rise strictly: below the first point its y and LOW, above the last point its y and
HIGH, and in the segment from a point up to the next the y of the point plus the proportional part, rounded to the
nearest whole number with an exact half away from zero, between the two points' y and exactly y at a point, and neither
LOW nor HIGH (R98). -/
def Obligations.LookupRunsThroughTheTable : Prop :=
  (∀ (p : Point) (rest : Table) (u : Nat), u < p.x → lookup (p :: rest) u = ⟨p.y, true, false⟩)
  ∧ (∀ (before : Table) (p : Point) (u : Nat), increasing (before ++ [p]) = true → p.x ≤ u →
      lookup (before ++ [p]) u = ⟨p.y, false, decide (p.x < u)⟩)
  ∧ (∀ (before after : Table) (p q : Point) (u : Nat), increasing (before ++ p :: q :: after) = true →
      p.x ≤ u → u < q.x →
      ∃ part : Int, lookup (before ++ p :: q :: after) u = ⟨((p.y : Int) + part).toNat, false, false⟩
        ∧ (min p.y q.y : Int) ≤ (p.y : Int) + part ∧ (p.y : Int) + part ≤ (max p.y q.y : Int)
        ∧ (u = p.x → part = 0)
        ∧ (let n : Int := ((u : Int) - p.x) * ((q.y : Int) - p.y)
          let d : Int := (q.x : Int) - p.x
          2 * (n - part * d) ≤ d ∧ -d ≤ 2 * (n - part * d)
          ∧ (2 * (n - part * d) = d → n < 0) ∧ (2 * (n - part * d) = -d → 0 < n)))

/-- The damping: a filtered position at its target stays; short of it, it moves by the difference times k over 256 cut to a
whole number, and by at least 1; it never passes the target, and with k 256 it is there at once (R102). -/
def Obligations.DampingApproachesTheTarget : Prop :=
  ∀ filtered target k : Nat, 1 ≤ k → k ≤ 256 →
    (filtered = target → damped filtered target k = target)
    ∧ (filtered < target → damped filtered target k = filtered + max 1 ((target - filtered) * k / 256)
        ∧ damped filtered target k ≤ target)
    ∧ (target < filtered → damped filtered target k = filtered - max 1 ((filtered - target) * k / 256)
        ∧ target ≤ damped filtered target k)
    ∧ (k = 256 → damped filtered target k = target)

/-- The drive of a gauge. With no BAT mean, or one below 3000 mV, duty 0 and SAT clear; otherwise 1000 times the required
voltage over the supply, or its square over the supply's square under THERMAL, to the nearest whole number with an
exact half up; above 1000 it is 1000 with SAT set (R104 to R107). -/
def Obligations.CompensationFollowsTheLaw : Prop :=
  ∀ (law : Law) (required : Nat),
    compensated law required none = (0, false)
    ∧ ∀ supply : Nat,
      (supply < 3000 → compensated law required (some supply) = (0, false))
      ∧ (3000 ≤ supply → ∃ raw : Nat,
        (let num := match law with
            | .magnetic => 1000 * required
            | .thermal => 1000 * (required * required)
          let den := match law with
            | .magnetic => supply
            | .thermal => supply * supply
          2 * den * raw ≤ 2 * num + den ∧ 2 * num + den < 2 * den * (raw + 1))
        ∧ compensated law required (some supply) = (min 1000 raw, decide (1000 < raw)))

/-- GAUGE_UPDATE. In CRANK the gauge is frozen; with a bound sender that has no sample the duty is 0 and the rest stays;
otherwise the stages run in order: the target from the link position, from the sender table, or from the fault policy
with FAULT; the damping; the gauge table; the law. SUM gathers the flags, GAUGE_SAT is set where SAT becomes set, the
period starts again, and nothing else changes (R96, R99 to R101, R103, R107, R108, R112). -/
def Obligations.GaugeUpdateRunsItsStages : Prop :=
  ∀ (s : State) (g : Fin 4), s.powered = true →
    let x := s.gauge g
    let k := s.gaugeConfig g
    let put := fun (y : Gauge) (sat : Bool) => ({ s with
      gauges := s.gauges.set g { y with sinceUpdate := 0 }
      events := if sat = true then s.events.set Event.gaugeSat.idx ⟨true, g.val⟩ else s.events } : State)
    let stages := fun (target : Nat) (fault low high : Bool) =>
      let filtered := damped x.filtered target k.k
      let found := lookup s.tables[g.val + 4] filtered
      let drive := compensated k.law found.value s.supply.batMean
      put { x with
        target := target, filtered := filtered, required := found.value, duty := drive.1
        low := low || found.low, high := high || found.high, sat := drive.2, fault := fault
        sum := x.sum || low || found.low || high || found.high || drive.2 || fault } (drive.2 && !x.sat)
    (s.supply.state = .crank → exec (.gaugeUpdate g) s = .next (put x false))
    ∧ (s.supply.state ≠ .crank →
      (k.binding = none → exec (.gaugeUpdate g) s = .next (stages x.linkPosition false false false))
      ∧ (∀ n, k.binding = some n →
        ((s.sender n).latest = none → exec (.gaugeUpdate g) s = .next (put { x with duty := 0 } false))
        ∧ (∀ r, (s.sender n).latest = some r → (s.sender n).state = .ok →
          let found := lookup s.tables[g.val] r
          exec (.gaugeUpdate g) s = .next (stages found.value false found.low found.high))
        ∧ (∀ r, (s.sender n).latest = some r → (s.sender n).state ≠ .ok →
          exec (.gaugeUpdate g) s = .next (stages (match k.policy with
            | .hold => x.target
            | .rest => 0
            | .full => 1000) true false false))))

/-- DRIVER_SAMPLE on a driver that is DRIVING with a duty above 0: a reading of 750 mA or less is kept; one above is a trip,
which enters WAITING, sets SUM, and sets GAUGE_FAULT with the gauge's number. There is no on-pulse, and nothing
happens, while WAITING or at duty 0. DRIVER_WAIT_END takes WAITING back to DRIVING (R110, R111). That the sample that
tripped is kept as the latest, through the wait and after it, is the model's choice (log 20), and so is the wait time's 0 in
DRIVING (log 40). -/
def Obligations.DriverTripsAndWaits : Prop :=
  ∀ (s : State) (g : Fin 4) (milliamps : Nat), s.powered = true →
    let x := s.gauge g
    let reading := currentReading 1000 milliamps
    (x.driver = .waiting ∨ x.duty = 0 → exec (.driverSample g milliamps) s = .next s)
    ∧ (x.driver = .driving → 0 < x.duty → reading ≤ 750 →
      exec (.driverSample g milliamps) s
        = .next { s with gauges := s.gauges.set g { x with driverSample := reading } })
    ∧ (x.driver = .driving → 0 < x.duty → 750 < reading →
      exec (.driverSample g milliamps) s = .next { s with
        gauges := s.gauges.set g
          { x with driverSample := reading, driver := .waiting, driverWait := 0, sum := true }
        events := s.events.set Event.gaugeFault.idx ⟨true, g.val⟩ })
    ∧ (x.driver = .waiting → exec (.driverWaitEnd g) s
        = .next { s with gauges := s.gauges.set g { x with driver := .driving, driverWait := 0 } })
    ∧ (x.driver = .driving → exec (.driverWaitEnd g) s = .next s)

/-! ### The heater fan -/

/-- A change of FAN's or IGN's effective value and the fan, brought by a debounced edge, a link write, a release, a mode
change, a SET_INPUT that binds a free input to a function that has one and settles nothing, the run-on limit, LIMP entry,
LIMP exit by a frame that changes nothing further, or a pending frame that a sent reply lets be taken; of any other
SET_INPUT BindingChangeIsNoEdge says it step by step. FAN to another value than 0 restarts the settle timer, or with a
window of 0 chooses the step at once; FAN to 0 drops the target step, stops the timer, returns the stall count to 0,
releases STALL_LOCK and leaves nothing conducting; on an ignition-fed fan IGN to 0 drops the target step and IGN to 1
with FAN not 0 restarts the timer; on another IGN does nothing; and where neither changes the choice of step is left
alone (R122, R128). Where both change at once IGN is taken first (log 30); a request is its frame's arrival (log 3), and a
pending frame is taken when the served frame's reply has left (log 16). -/
def Obligations.FanTakesItsDemand : Prop :=
  ∀ s : State, s.powered = true → s.restarting = false →
    let k := s.settings.fan
    let restarted := fun (u : State) => u.fan.stallCount = s.fan.stallCount
      ∧ (k.settleWindow ≠ 0 → u.fan.settle = some 0)
      ∧ (k.settleWindow = 0 → u.fan.settle = none ∧ u.fan.targetStep
          = (if k.ignitionFed = true ∧ u.eff .ign ≠ 1 then 0 else u.eff .fan))
    let untouched := fun (u : State) => u.fan.settle = s.fan.settle ∧ u.fan.targetStep = s.fan.targetStep
      ∧ u.fan.stallCount = s.fan.stallCount
    let taken := fun (u : State) =>
      (u.eff .fan = s.eff .fan → u.eff .ign = s.eff .ign ∨ k.ignitionFed = false → untouched u)
      ∧ (u.eff .fan = s.eff .fan → u.eff .ign ≠ s.eff .ign → k.ignitionFed = true →
          (u.eff .ign = 1 → u.eff .fan = 0 → untouched u)
          ∧ (u.eff .ign = 1 → u.eff .fan ≠ 0 → restarted u
            ∧ (k.settleWindow ≠ 0 → u.fan.targetStep = s.fan.targetStep))
          ∧ (u.eff .ign ≠ 1 → u.fan.settle = none ∧ u.fan.targetStep = 0
            ∧ u.fan.stallCount = s.fan.stallCount))
      ∧ (u.eff .fan ≠ s.eff .fan → u.eff .fan ≠ 0 → restarted u
          ∧ (k.settleWindow ≠ 0 → u.fan.targetStep
            = (if u.eff .ign ≠ s.eff .ign ∧ k.ignitionFed = true ∧ u.eff .ign ≠ 1 then 0 else s.fan.targetStep)))
      ∧ (u.eff .fan ≠ s.eff .fan → u.eff .fan = 0 →
          u.fan.settle = none ∧ u.fan.targetStep = 0 ∧ u.fan.stallCount = 0
          ∧ u.fan.state = (if s.fan.state = .stallWait then .stallWait else .off))
    let writes := fun command : Instr => match command with
      | .setDemand _ _ => True
      | .setDemandIf _ _ => True
      | .releaseDemand _ => True
      | .setFunction _ _ => True
      | .setInput i f _ _ _ debounce =>
        (∀ j : Fin 12, j.val = i →
          (s.binding j).function = none ∧ (s.input j).count < max 5 (min 200 debounce))
        ∧ ∀ g : Fn, g.idx.val = f → ∃ j, (s.binding j).function = some g
      | _ => False
    (s.link.served = none → s.link.limp = true → ∃ t, exec .hello s = .next t ∧ taken t)
    ∧ (∀ command, s.link.served = none → s.link.limp = false → writes command →
      ∃ t, exec command s = .next t ∧ taken t)
    ∧ (∀ command frame reply rest, s.link.limp = false → writes command → s.link.outbox = .reply reply :: rest →
      s.link.pendingFrame = some frame → frame.asks = .request command → ∃ t, exec .replySent s = .next t ∧ taken t)
    ∧ (∀ i, ∃ t, exec (.debounceExpiry i) s = .next t ∧ taken t)
    ∧ (∀ side, ∃ t, exec (.runOnExpiry side) s = .next t ∧ taken t)
    ∧ (∃ t, exec .limpEntry s = .next t ∧ taken t)

/-- SET_FAN takes every setting into its range, step 0 as 0, and answers them. With IGN at 0 a fan that becomes ignition-fed
drops its target step, and one that ceases to be, with FAN not 0, restarts the settle timer; a settle timer that has
passed the new window ends; the fan follows its new target duty at once (R121, R122, R123). That these are taken in this
order is the model's choice (log 39). -/
def Obligations.FanSettingsAreTaken : Prop :=
  ∀ (s : State) (d0 d1 d2 d3 ramp settle stall : Nat) (fed : Bool), s.attentive →
    let k : FanConfig :=
      { duty1 := min 1000 d1, duty2 := min 1000 d2, duty3 := min 1000 d3
        rampStep := max 10 (min 1000 ramp), settleWindow := min 3000 settle
        stallLimit := max 2000 (min 15000 stall), ignitionFed := fed }
    let f : Fan :=
      if s.settings.fan.ignitionFed = fed ∨ s.eff .ign = 1 then s.fan
      else if fed = true then { s.fan with settle := none, targetStep := 0 }
      else if s.eff .fan = 0 then s.fan
      else { s.fan with settle := some 0 }
    let f' : Fan := match f.settle with
      | some t => if k.settleWindow ≤ t then
          { f with settle := none
                   targetStep := if fed = true ∧ s.eff .ign ≠ 1 then 0 else s.eff .fan } else f
      | none => f
    ∃ t, exec (.setFan d0 d1 d2 d3 ramp settle stall (bit fed 1)) s = .next t
      ∧ ({ s with
          settings := { s.settings with fan := k }, fan := f'
          link := s.linkAfter ⟨0x40, u16 d0 ++ u16 d1 ++ u16 d2 ++ u16 d3 ++ u16 ramp ++ u16 settle
              ++ u16 stall ++ u8 (bit fed 1)⟩
            (u8 0 ++ u16 0 ++ u16 k.duty1 ++ u16 k.duty2 ++ u16 k.duty3 ++ u16 k.rampStep
              ++ u16 k.settleWindow ++ u16 k.stallLimit ++ truth fed) } : State).settledAs t

/-- The fan and its target duty: from OFF and from a lower duty in RUN the ramp timer starts from zero and the first ramp step
is taken at once; a target at or below the duty is taken at once and a target of 0 stops the fan; on the way up it is in
RAMP, at the target in RUN; waiting and locked it stays (R124).
The fan's timers. SETTLE_WINDOW_END with the timer running stops it and chooses FAN's step, or 0 with the ignition off on
an ignition-fed fan; FAN_RAMP_STEP in RAMP, at the ramp timer's next multiple of 100 ms, raises the duty by the ramp step,
no higher than the target, and is in RUN there; STALL_WAIT_END in STALL_WAIT leaves the fan OFF at a target of 0 and
otherwise takes the first ramp step. In any other state each does nothing (R122, R123, R124, R127). The count of the ramp
timer's multiples, and the timer's 0 outside RAMP, are the model's (log 29). -/
def Obligations.FanTimersMoveTheFan : Prop :=
  (∀ (f : Fan) (step target : Nat),
    let up := fun from' : Nat => ({ f with
      dutyNow := min (from' + step) target, rampTimer := 0, rampSteps := 0
      state := if target ≤ from' + step then FanState.run else .ramp } : Fan)
    let stopped : Fan := { f with
      state := .off, dutyNow := 0, rampTimer := 0, rampSteps := 0, stallRun := none, waitTimer := 0
      lowRun := none, highRun := none }
    (f.state = .off → f.follow step target = (if target = 0 then f else up 0))
    ∧ (f.state = .ramp → f.follow step target = (if target = 0 then stopped
        else if target ≤ f.dutyNow then
          { f with dutyNow := target, state := .run, rampTimer := 0, rampSteps := 0 } else f))
    ∧ (f.state = .run → f.follow step target = (if target = 0 then stopped
        else if target ≤ f.dutyNow then { f with dutyNow := target } else up f.dutyNow))
    ∧ (f.state = .stallWait ∨ f.state = .stallLock → f.follow step target = f))
  ∧ ∀ s : State, s.powered = true →
    let f := s.fan
    let step := s.settings.fan.rampStep
    let target := min (match f.targetStep with
      | 1 => s.settings.fan.duty1
      | 2 => s.settings.fan.duty2
      | 3 => s.settings.fan.duty3
      | _ => 0) (match s.supply.state with
      | .normal => 1000
      | .lean => s.settings.fan.duty1
      | .shed => 0
      | .crank => 0)
    (f.settle ≠ none → ∃ t, exec .settleWindowEnd s = .next t
      ∧ ({ s with fan := { f with
          settle := none
          targetStep := if s.settings.fan.ignitionFed = true ∧ s.eff .ign ≠ 1 then 0 else s.eff .fan } }
          : State).settledAs t)
    ∧ (f.settle = none → exec .settleWindowEnd s = .next s)
    ∧ (f.state = .ramp → exec .fanRampStep s = .next { s with fan := if target ≤ f.dutyNow + step
        then { f with dutyNow := target, state := .run, rampTimer := 0, rampSteps := 0 }
        else { f with
          dutyNow := f.dutyNow + step, rampTimer := max f.rampTimer (100 * (f.rampSteps + 1))
          rampSteps := f.rampSteps + 1 } })
    ∧ (f.state ≠ .ramp → exec .fanRampStep s = .next s)
    ∧ (f.state = .stallWait → exec .stallWaitEnd s = .next { s with fan := { f with
        state := if target = 0 then .off else if target ≤ step then .run else .ramp
        dutyNow := min step target, rampTimer := 0, rampSteps := 0, stallRun := none
        waitTimer := 0, lowRun := none, highRun := none } })
    ∧ (f.state ≠ .stallWait → exec .stallWaitEnd s = .next s)

/-- A stall, by FAN_STALL with the stall run running outside CRANK, or a trip, by a FAN_SAMPLE above 25,000 mA, in RAMP or
RUN: the fan stops, the stall count rises, FAN_STALL takes detail 0 or 1; it waits at the first and second and locks
with FAN_LOCKED at the third. Otherwise FAN_STALL does nothing (R125, R126, R127, R130).
A FAN_SAMPLE that is no trip is kept; in RAMP or RUN a reading above the stall limit outside CRANK keeps the stall run and
any other holds it at zero, a reading below 200 mA keeps the low run at a duty of 300 or more and holds the high run
at zero, any other the reverse. FAN_OPEN_DETECT and FAN_OPEN_CLEAR in RAMP or RUN with their run running set and
clear the open flag, and otherwise do nothing (R119, R125, R129, R130). That a run starts at 0 with its first sample, and
that without a run the rows do nothing, is the model's reading (log 31). -/
def Obligations.FanSamplesTestTheMotor : Prop :=
  (∀ s : State, s.powered = true →
     let f := s.fan
     let conducts : Prop := f.state = .ramp ∨ f.state = .run
     let after := fun (detail current : Nat) =>
       if f.stallCount < 2 then
         ({ s with
           fan := { f with
             state := .stallWait, dutyNow := 0, rampTimer := 0, rampSteps := 0, stallRun := none
             waitTimer := 0, stallCount := f.stallCount + 1, lowRun := none, highRun := none, current := current }
           events := s.events.set Event.fanStall.idx ⟨true, detail⟩ } : State)
       else
         { s with
           fan := { f with
             state := .stallLock, dutyNow := 0, rampTimer := 0, rampSteps := 0, stallRun := none
             waitTimer := 0, stallCount := 3, lowRun := none, highRun := none, current := current }
           events := (s.events.set Event.fanStall.idx ⟨true, detail⟩).set Event.fanLocked.idx ⟨true, 0⟩ }
     (∀ milliamps, conducts → 25000 < currentReading 30000 milliamps →
       exec (.fanSample milliamps) s = .next (after 1 (currentReading 30000 milliamps)))
     ∧ (conducts → f.stallRun ≠ none → s.supply.state ≠ .crank →
       exec .fanStall s = .next (after 0 f.current))
     ∧ (¬ conducts ∨ f.stallRun = none ∨ s.supply.state = .crank → exec .fanStall s = .next s))
  ∧ (∀ s : State, s.powered = true →
       let f := s.fan
       let conducts : Prop := f.state = .ramp ∨ f.state = .run
       (∀ milliamps,
         let reading := currentReading 30000 milliamps
         (¬ conducts → exec (.fanSample milliamps) s = .next { s with fan := { f with current := reading } })
         ∧ (conducts → reading ≤ 25000 → exec (.fanSample milliamps) s = .next { s with fan := { f with
             current := reading
             stallRun := if s.settings.fan.stallLimit < reading ∧ s.supply.state ≠ .crank
               then some (f.stallRun.getD 0) else none
             lowRun := if reading < 200 ∧ 300 ≤ f.dutyNow then some (f.lowRun.getD 0) else none
             highRun := if reading < 200 then none else some (f.highRun.getD 0) } }))
       ∧ (conducts → f.lowRun ≠ none → exec .fanOpenDetect s
           = .next { s with fan := { f with lowRun := f.lowRun.map (max 2000), openFlag := true } })
       ∧ (¬ conducts ∨ f.lowRun = none → exec .fanOpenDetect s = .next s)
       ∧ (conducts → f.highRun ≠ none → exec .fanOpenClear s
           = .next { s with fan := { f with highRun := f.highRun.map (max 2000), openFlag := false } })
       ∧ (¬ conducts ∨ f.highRun = none → exec .fanOpenClear s = .next s))

/-! ### The supply watch -/

/-- SET_SUPPLY: a threshold sent as 0 takes its class's default and any other is brought into its range, the budget is 0 or
brought into 5000 to 60,000 mA; settings with shed below lean and crank enter below crank exit are taken and
answered, and reach the charge and store conditions at once; any others answer BAD_ARG and change nothing (R137,
R138). -/
def Obligations.SupplySettingsAreOrdered : Prop :=
  ∀ (s : State) (cls : SystemClass) (lean shed enter exit hysteresis margin minimum budget : Nat), s.attentive →
    let taken := fun default low high sent : Nat => if sent = 0 then default else max low (min high sent)
    let k : SupplyConfig := match cls with
      | .volt12 =>
        ⟨.volt12, taken 11800 4000 16000 lean, taken 10500 4000 16000 shed, taken 9000 4500 14000 enter,
          taken 10000 4500 14000 exit, taken 300 10 2000 hysteresis, taken 1000 100 3000 margin,
          taken 9500 4500 14000 minimum, taken 0 5000 60000 budget⟩
      | .volt6 =>
        ⟨.volt6, taken 5900 4000 16000 lean, taken 5250 4000 16000 shed, taken 4800 4500 14000 enter,
          taken 5200 4500 14000 exit, taken 150 10 2000 hysteresis, taken 500 100 3000 margin,
          taken 5000 4500 14000 minimum, taken 0 5000 60000 budget⟩
    let command := Instr.setSupply cls.code lean shed enter exit hysteresis margin minimum budget
    let frame : Frame := ⟨0x42, u8 cls.code ++ u16 lean ++ u16 shed ++ u16 enter ++ u16 exit ++ u16 hysteresis
      ++ u16 margin ++ u16 minimum ++ u16 budget⟩
    (k.shed < k.lean → k.crankEnter < k.crankExit → ∃ t, exec command s = .next t
      ∧ ({ s with
          settings := { s.settings with supply := k }
          link := s.linkAfter frame (u8 0 ++ u8 cls.code ++ u16 k.lean ++ u16 k.shed ++ u16 k.crankEnter
            ++ u16 k.crankExit ++ u16 k.hysteresis ++ u16 k.chargeMargin ++ u16 k.storeMinimum
            ++ u16 k.budget) } : State).settledAs t)
    ∧ (k.lean ≤ k.shed ∨ k.crankExit ≤ k.crankEnter →
      exec command s = .next (s.answered frame (u8 0x04)))

/-- SAMPLE_SLOT: the voltages join the last eight samples of each, whose means are theirs to the nearest millivolt with an
exact half up; the total load is the sum of the latest currents; LOW_SEEN marks a mean below lean and MIN_BAT keeps
the least mean; whatever the slot moves, the blocks have taken it up, and nothing outside the supply watch, its event
and the runs that CRANK holds at zero changes besides (R56, R130, R133, R134, R136, R144, R147). -/
def Obligations.SlotTakesSamplesAndMeans : Prop :=
  ∀ (s : State) (bat dyn : Nat), s.powered = true → ∃ t, exec (.sampleSlot bat dyn) s = .next t
    ∧ t.supply.batSamples = (voltageReading bat :: s.supply.batSamples).take 8
    ∧ t.supply.dynSamples = (voltageReading dyn :: s.supply.dynSamples).take 8
    ∧ (∀ mean, t.supply.batMean = some mean →
        2 * t.supply.batSamples.length * mean ≤ 2 * t.supply.batSamples.sum + t.supply.batSamples.length
        ∧ 2 * t.supply.batSamples.sum + t.supply.batSamples.length
            < 2 * t.supply.batSamples.length * (mean + 1)
        ∧ t.supply.lowSeen = (s.supply.lowSeen || decide (mean < s.settings.supply.lean))
        ∧ t.supply.minBat = (match s.supply.minBat with
          | none => some mean
          | some m => some (min m mean)))
    ∧ (∀ mean, t.supply.dynMean = some mean →
        2 * t.supply.dynSamples.length * mean ≤ 2 * t.supply.dynSamples.sum + t.supply.dynSamples.length
        ∧ 2 * t.supply.dynSamples.sum + t.supply.dynSamples.length
            < 2 * t.supply.dynSamples.length * (mean + 1))
    ∧ t.supply.batMean ≠ none ∧ t.supply.dynMean ≠ none
    ∧ t.supply.totalLoad = ((List.finRange 16).map fun c => (s.channel c).current).sum + s.fan.current
        + ((List.finRange 4).map fun g => if (s.gauge g).driver = .waiting ∨ (s.gauge g).duty = 0 then 0
            else (s.gauge g).driverSample).sum
    ∧ (let crank : Prop := t.supply.state ≠ s.supply.state ∧ (t.supply.state = .crank ∨ s.supply.state = .crank)
      ({ s with
        supply := { t.supply with charge := s.supply.charge }
        events := s.events.set Event.supplyState.idx (t.event .supplyState)
        channels := vecOfFn fun c =>
          if crank then { s.channel c with lowRun := none, highRun := none } else s.channel c
        fan := if crank then { s.fan with stallRun := none } else s.fan } : State).settledAs t)

/-- SAMPLE_SLOT takes at most one transition, the first of its state's row that applies, judged on this slot's mean, charge
condition and load, and on timers that have run this slot on their conditions. A change of state sets SUPPLY_STATE with
the new state, returns every timer to zero but the shed timer between NORMAL and LEAN, and arms CRANK entry but on
leaving CRANK by its limit; in SHED entry is armed again at a mean at or above crank enter (R135, R139 to R145). -/
def Obligations.SlotTakesOneTransition : Prop :=
  ∀ (s : State) (bat dyn : Nat), s.powered = true → ∃ t, exec (.sampleSlot bat dyn) s = .next t
    ∧ ∀ mean, t.supply.batMean = some mean →
      let k := s.settings.supply
      let was := s.supply.timers
      let heavy : Prop := k.budget ≠ 0 ∧ s.eff .ign = 1 ∧ k.budget < t.supply.totalLoad
      let run := fun (timer : SupplyTimer) (condition : Prop) [Decidable condition] =>
        if ¬ condition then ⟨false, 0, 0⟩
        else if timer.started = false then ⟨true, 0, 0⟩
        else if timer.slots = 99 then ⟨true, 0, timer.seconds + 1⟩
        else (⟨true, timer.slots + 1, timer.seconds⟩ : SupplyTimer)
      let ripe := fun (timer : SupplyTimer) (delay : Nat) =>
        timer.started = true ∧ delay ≤ timer.seconds * 1000 + timer.slots * 10
      let ran : SupplyTimers := match s.supply.state with
        | .normal => { SupplyTimers.zero with
            lean := run was.lean (mean < k.lean ∧ t.supply.charge = true)
            budget := run was.budget heavy, shed := run was.shed (mean < k.shed) }
        | .lean => { SupplyTimers.zero with
            recovery := run was.recovery (k.lean + k.hysteresis < mean ∧ ¬ heavy)
            shed := run was.shed (mean < k.shed) }
        | .shed => { SupplyTimers.zero with unshed := run was.unshed (k.shed + k.hysteresis < mean) }
        | .crank => { SupplyTimers.zero with
            crankExit := run was.crankExit (k.crankExit < mean), crankLimit := run was.crankLimit True }
      let next : SupplyState := match s.supply.state with
        | .normal => if mean < k.crankEnter then .crank
          else if ripe ran.shed 2000 then .shed
          else if ripe ran.lean 10000 ∨ ripe ran.budget 30000 then .lean
          else .normal
        | .lean => if mean < k.crankEnter then .crank
          else if ripe ran.shed 2000 then .shed
          else if ripe ran.recovery 10000 then .normal
          else .lean
        | .shed => if mean < k.crankEnter ∧ s.supply.armed = true then .crank
          else if ripe ran.unshed 10000 then .lean
          else .shed
        | .crank => if ripe ran.crankExit 500 then .normal
          else if ripe ran.crankLimit 10000 then .shed
          else .crank
      (∀ timer ∈ [was.lean, was.budget, was.recovery, was.shed, was.unshed, was.crankExit, was.crankLimit],
        timer.slots < 100) →
      t.supply.state = next
      ∧ (next = s.supply.state → t.supply.timers = ran ∧ t.event .supplyState = s.event .supplyState
          ∧ t.supply.armed = (s.supply.armed || decide (next = .shed ∧ k.crankEnter ≤ mean)))
      ∧ (next ≠ s.supply.state → t.event .supplyState = ⟨true, next.code⟩
          ∧ t.supply.armed = decide (s.supply.state ≠ .crank ∨ next = .normal)
          ∧ t.supply.timers = { SupplyTimers.zero with
              shed := if (s.supply.state = .normal ∧ next = .lean) ∨ (s.supply.state = .lean ∧ next = .normal)
                then ran.shed else .zero })

/-- A supply timer's expiry, with the timer started in the state it runs in, takes the transition the timer stands for: the
state, SUPPLY_STATE, CRANK entry armed but after the limit, every timer at zero but the shed timer between NORMAL and
LEAN, the runs at zero on leaving CRANK, the blocks after it; otherwise it does nothing. That these rows act apart from
a slot is the model's choice (log 23; R56, R130, R135, R140 to R145). -/
def Obligations.TimerExpiriesMoveTheSupply : Prop :=
  ∀ s : State, s.powered = true →
    let at' := s.supply.state
    let timers := s.supply.timers
    let moves := fun (command : Instr) (runsIn : Prop) (timer : SupplyTimer) (next : SupplyState) (armed : Bool) =>
      (runsIn → timer.started = true → ∃ t, exec command s = .next t
        ∧ ({ s with
            supply := { s.supply with
              state := next, armed := armed
              timers := { SupplyTimers.zero with
                shed := if (at' = .normal ∧ next = .lean) ∨ (at' = .lean ∧ next = .normal)
                  then timers.shed else .zero } }
            channels := vecOfFn fun c =>
              if at' = .crank then { s.channel c with lowRun := none, highRun := none } else s.channel c
            fan := if at' = .crank then { s.fan with stallRun := none } else s.fan
            events := s.events.set Event.supplyState.idx ⟨true, next.code⟩ } : State).settledAs t)
      ∧ (¬ runsIn ∨ timer.started = false → exec command s = .next s)
    moves .leanTimerExpiry (at' = .normal) timers.lean .lean true
    ∧ moves .budgetTimerExpiry (at' = .normal) timers.budget .lean true
    ∧ moves .recoveryTimerExpiry (at' = .lean) timers.recovery .normal true
    ∧ moves .shedTimerExpiry (at' = .normal ∨ at' = .lean) timers.shed .shed true
    ∧ moves .unshedTimerExpiry (at' = .shed) timers.unshed .lean true
    ∧ moves .crankExitTimerExpiry (at' = .crank) timers.crankExit .normal true
    ∧ moves .crankLimitTimerExpiry (at' = .crank) timers.crankLimit .shed false

/-! ### The store -/

/-- TABLE_OPEN opens the staging buffer on a table's active points with the pointer at the start asked for, and TABLE_POINT
stores a point clamped into the table's ranges at the pointer and advances it; closed it answers NOT_OPEN and at 16
STAGE_FULL (R153, R154). -/
def Obligations.StagingTakesPoints : Prop :=
  ∀ s : State, s.attentive →
    (∀ (p : Fin 8) (start : Nat), start ≤ 15 →
      let opened : Staging := ⟨p, start, s.tables[p].length, vecOfFn fun i => s.tables[p].getD i.val ⟨0, 0⟩⟩
      exec (.tableOpen p.val start) s = .next
        { s.answered ⟨0x50, u8 p.val ++ u8 start⟩ (u8 0 ++ u8 p.val ++ u8 start ++ u8 s.tables[p].length) with
          store := { s.store with staging := some opened } })
    ∧ (∀ x y : Nat,
      let frame : Frame := ⟨0x51, u16 x ++ u16 y⟩
      (s.store.staging = none → exec (.tablePoint x y) s = .next (s.answered frame (u8 0x07)))
      ∧ (∀ b, s.store.staging = some b → 16 ≤ b.pointer →
        exec (.tablePoint x y) s = .next (s.answered frame (u8 0x08)))
      ∧ (∀ b, s.store.staging = some b → ∀ h : b.pointer < 16,
        let q : Point := if b.table.val < 4 then ⟨min x 5000, min y 1000⟩ else ⟨min x 1000, min y 16000⟩
        let grown := max b.length (b.pointer + 1)
        let put : Staging := ⟨b.table, b.pointer + 1, grown, b.slots.set b.pointer q h⟩
        exec (.tablePoint x y) s = .next
          { s.answered frame (u8 0 ++ u16 q.x ++ u16 q.y ++ u8 (b.pointer + 1) ++ u8 grown) with
            store := { s.store with staging := some put } }))

/-- TABLE_COMMIT and SAVE_SETTINGS. A commit is checked in order: NOT_OPEN, BAD_ARG for a length outside 2 to 16 or above the
buffer's, BUSY, NOT_MONOTONIC; then staging closes and the first points are the image. SAVE_SETTINGS, unless BUSY,
takes the working copy. The image's page loses its valid mark and its programming begins; without the store supply
condition it fails at once with cause LOW_SUPPLY and STORE_FAIL. The active table and settings stay (R151, R155, R156,
R157). -/
def Obligations.ProgrammingBeginsOnRequest : Prop :=
  ∀ s : State, s.attentive →
    let begun := fun (t : State) (frame : Frame) (payload : Reply) (staging : Option Staging) (image : Image) =>
      let emptied : Store := match image with
        | .table p _ => { s.store with staging := staging, tablePages := s.store.tablePages.set p none }
        | .settings _ => { s.store with staging := staging, settingsPage := none }
      let page : Fin 9 := match image with
        | .table p _ => p.castLE (by decide)
        | .settings _ => 8
      (s.storeCondition = true → t =
        { s with link := s.linkAfter frame payload, store := { emptied with programming := some ⟨image, 0⟩ } })
      ∧ (s.storeCondition = false → t =
        { s with
          link := s.linkAfter frame payload
          store := { emptied with programming := none, failure := some ⟨page, .lowSupply⟩ }
          events := s.events.set Event.storeFail.idx ⟨true, page.val⟩ })
    (∀ length : Nat,
      let frame : Frame := ⟨0x52, u8 length⟩
      (s.store.staging = none → exec (.tableCommit length) s = .next (s.answered frame (u8 0x07)))
      ∧ ∀ b, s.store.staging = some b →
        (length < 2 ∨ 16 < length ∨ b.length < length →
          exec (.tableCommit length) s = .next (s.answered frame (u8 0x04)))
        ∧ (2 ≤ length → length ≤ 16 → length ≤ b.length → s.store.programming ≠ none →
          exec (.tableCommit length) s = .next (s.answered frame (u8 0x06)))
        ∧ (2 ≤ length → length ≤ 16 → length ≤ b.length → s.store.programming = none →
          (¬ (b.slots.toList.take length).Pairwise (fun p q => p.x < q.x) →
            exec (.tableCommit length) s = .next (s.answered frame (u8 0x09)))
          ∧ ((b.slots.toList.take length).Pairwise (fun p q => p.x < q.x) →
            ∃ t, exec (.tableCommit length) s = .next t
              ∧ begun t frame (u8 0 ++ u8 b.table.val ++ u8 length) none
                (.table b.table (b.slots.toList.take length)))))
    ∧ (s.store.programming ≠ none → exec .saveSettings s = .next (s.answered ⟨0x54, []⟩ (u8 0x06)))
    ∧ (s.store.programming = none → ∃ t, exec .saveSettings s = .next t
        ∧ begun t ⟨0x54, []⟩ (u8 0) s.store.staging (.settings s.settings))

/-- PROGRAMMING_COMPLETE with a programming in flight: where the read-back agrees the page holds its image with its valid mark,
a table becomes the active table, and STORE_DONE takes the page; where it does not, the page stays without its mark,
the failure record takes page and VERIFY, and STORE_FAIL is set; without the store supply condition the cause is
LOW_SUPPLY. With nothing in flight nothing happens (R151, R156; the outcome is an operand, log 22). -/
def Obligations.ProgrammingEndsAsItReadsBack : Prop :=
  ∀ (s : State) (agrees : Bool), s.powered = true →
    (s.store.programming = none → exec (.programmingComplete agrees) s = .next s)
    ∧ (∀ (image : Image) (elapsed : Nat), s.store.programming = some ⟨image, elapsed⟩ →
      let page : Fin 9 := match image with
        | .table p _ => p.castLE (by decide)
        | .settings _ => 8
      let failed := fun cause : FailureCause => ({ s with
        store := { s.store with programming := none, failure := some ⟨page, cause⟩ }
        events := s.events.set Event.storeFail.idx ⟨true, page.val⟩ } : State)
      (s.storeCondition = false → exec (.programmingComplete agrees) s = .next (failed .lowSupply))
      ∧ (s.storeCondition = true → agrees = false →
        exec (.programmingComplete agrees) s = .next (failed .verify))
      ∧ (s.storeCondition = true → agrees = true → ∃ t, exec (.programmingComplete agrees) s = .next t
        ∧ t = { s with
          store := { s.store with
            programming := none, tablePages := t.store.tablePages, settingsPage := t.store.settingsPage }
          tables := t.tables
          events := s.events.set Event.storeDone.idx ⟨true, page.val⟩ }
        ∧ (match image with
          | .table p points => t.store.tablePages = s.store.tablePages.set p (some points)
              ∧ t.store.settingsPage = s.store.settingsPage ∧ t.tables = s.tables.set p points
          | .settings x => t.store.settingsPage = some x ∧ t.store.tablePages = s.store.tablePages
              ∧ t.tables = s.tables)))

/-! ### Refusals -/

/-- A request that names a function, input, entry, role, channel, event, sender, gauge or table outside its range, or an
option that is neither 0 nor 1, or an enumerated value that no rule has, is answered BAD_ARG and changes nothing beyond
what its valid frame does (R4, R8, R11, R12, R13, R16, R17, R30, R32, R163, R174). -/
def Obligations.NumbersOutOfRangeAreRefused : Prop :=
  ∀ s : State, s.attentive → ∀ (command : Instr) (frame : Frame), frameOf? command = some frame →
    (match command with
      | .readDemand f reserve => 13 ≤ f ∨ 2 ≤ reserve
      | .setDemand f _ => 13 ≤ f
      | .setDemandIf f _ => 13 ≤ f
      | .releaseDemand f => 13 ≤ f
      | .setFunction f mode => 13 ≤ f ∨ 3 ≤ mode
      | .setInput i f action _ polarity _ => 12 ≤ i ∨ (13 ≤ f ∧ f ≠ 0xFF) ∨ 3 ≤ action ∨ 2 ≤ polarity
      | .readInputs i => 12 ≤ i
      | .setMap e r a b on => 16 ≤ e ∨ 15 ≤ r ∨ 16 ≤ a ∨ 16 ≤ b ∨ 2 ≤ on
      | .readMap e => 16 ≤ e
      | .setRole r _ => 15 ≤ r
      | .setChannel c p _ _ _ _ _ _ x => 16 ≤ c ∨ 3 ≤ p ∨ (16 ≤ x ∧ x ≠ 0xFF)
      | .readChannel c => 16 ≤ c
      | .clearChannel c => 16 ≤ c
      | .setEvent e on _ => 16 ≤ e ∨ 2 ≤ on
      | .setGauge g n law _ policy => 4 ≤ g ∨ (4 ≤ n ∧ n ≠ 0xFF) ∨ 2 ≤ law ∨ 3 ≤ policy
      | .readGauge g clear => 4 ≤ g ∨ 2 ≤ clear
      | .setGaugePosition g _ => 4 ≤ g
      | .setSender n _ _ => 4 ≤ n
      | .readSender n => 4 ≤ n
      | .setFan _ _ _ _ _ _ _ fed => 2 ≤ fed
      | .setSupply cls _ _ _ _ _ _ _ _ => 2 ≤ cls
      | .readSupply clear => 2 ≤ clear
      | .tableOpen p start => 8 ≤ p ∨ 16 ≤ start
      | .tableRead p _ => 8 ≤ p
      | _ => False) →
    exec command s = .next (s.answered frame [0x04])

/-! ### What every step keeps -/

/-- The invariants hold right after reset. -/
def Obligations.ResetMeetsTheInvariants : Prop :=
  State.reset.Evaluated ∧ State.reset.FanInStep ∧ State.reset.LockOffCounted ∧ State.reset.CallsFollowed
  ∧ State.reset.ConditionsFollowed ∧ State.reset.TablesFit ∧ State.reset.GaugesInRange
  ∧ State.reset.FlightUnmarked ∧ State.reset.SupplyInOrder ∧ State.reset.ValuesInRange ∧ State.reset.LinkInOrder

/-- Outside LIMP every effective value stays the mode evaluation of its record, whatever the step; and switch, link,
effective and level values stay within the range of their function (R4, R9 to R14, R20). -/
def Obligations.EveryStepKeepsFunctionsEvaluated : Prop :=
  ∀ s t : State, step s = .next t →
    (s.Evaluated → t.Evaluated) ∧ (s.ValuesInRange → t.ValuesInRange)

/-- No channel lags its call and the cadence runs exactly while some side is active; the charge condition and the run-on
timers follow their conditions at once, and nothing is programmed without the store supply condition (R35, R46, R52,
R68, R70, R76, R146, R156). -/
def Obligations.EveryStepLeavesNothingLagging : Prop :=
  ∀ s t : State, s.CallsFollowed → s.ConditionsFollowed → step s = .next t →
    t.CallsFollowed ∧ t.ConditionsFollowed

/-- A channel stays locked off exactly at a trip count of 3; the fan's duty stays the one its state and target allow, at
rest in OFF, below the target in RAMP, at the target in RUN, so that it never exceeds the cap of the supply state (R57
to R62, R120, R123, R124, R127). -/
def Obligations.EveryStepKeepsOutputsInStep : Prop :=
  ∀ s t : State, step s = .next t →
    (s.LockOffCounted → t.LockOffCounted)
    ∧ (s.FanInStep → t.FanInStep ∧ t.fan.dutyNow ≤ t.fanCap)

/-- Every active table, valid page, image in flight and staged point stays as tables must be, and every gauge's results and
damping constants stay within their ranges; a page being programmed stays without its valid mark, and nothing is in
flight once a RESTART has been accepted (R95, R97, R151, R153, R154, R155, R159, R165). -/
def Obligations.EveryStepKeepsTablesAndPages : Prop :=
  ∀ s t : State, step s = .next t →
    (s.TablesFit → t.TablesFit) ∧ (s.TablesFit → s.GaugesInRange → t.GaugesInRange)
    ∧ (s.FlightUnmarked → t.FlightUnmarked)

/-- The supply timers stay at zero outside their states, CRANK entry stays armed outside SHED, and the means stay those of
the last eight samples (R134, R135, R142); and a reply to a request waits exactly while a frame is served, a pending
frame's place exactly while one is pending, and at most one FRAME_ERROR (R161, R162, R163, R165; logs 15, 16). -/
def Obligations.EveryStepKeepsSupplyAndLinkInOrder : Prop :=
  ∀ s t : State, step s = .next t →
    (s.SupplyInOrder → t.SupplyInOrder) ∧ (s.LinkInOrder → t.LinkInOrder)
end

