-- ==== Sys2Proof/Laws/State.lean ====
section
/-! SUPPORT. What each plain update of the state leaves in each field: one lemma for each field of each update, so
that no proof unfolds a record update. -/

namespace Sys2Proof.Machine

variable (s : State)

/-! ### setFn -/

@[simp] theorem State.setFn_pending (f : Fn) (r : FnRecord) : (s.setFn f r).pending = s.pending := rfl
@[simp] theorem State.setFn_powered (f : Fn) (r : FnRecord) : (s.setFn f r).powered = s.powered := rfl
@[simp] theorem State.setFn_restarting (f : Fn) (r : FnRecord) :
    (s.setFn f r).restarting = s.restarting :=
  rfl
@[simp] theorem State.setFn_inputs (f : Fn) (r : FnRecord) : (s.setFn f r).inputs = s.inputs := rfl
@[simp] theorem State.setFn_functions (f : Fn) (r : FnRecord) :
    (s.setFn f r).functions = s.functions.set f.idx r :=
  rfl
@[simp] theorem State.setFn_reservation (f : Fn) (r : FnRecord) :
    (s.setFn f r).reservation = s.reservation :=
  rfl
@[simp] theorem State.setFn_flasher (f : Fn) (r : FnRecord) : (s.setFn f r).flasher = s.flasher := rfl
@[simp] theorem State.setFn_channels (f : Fn) (r : FnRecord) : (s.setFn f r).channels = s.channels := rfl
@[simp] theorem State.setFn_senders (f : Fn) (r : FnRecord) : (s.setFn f r).senders = s.senders := rfl
@[simp] theorem State.setFn_gauges (f : Fn) (r : FnRecord) : (s.setFn f r).gauges = s.gauges := rfl
@[simp] theorem State.setFn_fan (f : Fn) (r : FnRecord) : (s.setFn f r).fan = s.fan := rfl
@[simp] theorem State.setFn_supply (f : Fn) (r : FnRecord) : (s.setFn f r).supply = s.supply := rfl
@[simp] theorem State.setFn_store (f : Fn) (r : FnRecord) : (s.setFn f r).store = s.store := rfl
@[simp] theorem State.setFn_link (f : Fn) (r : FnRecord) : (s.setFn f r).link = s.link := rfl
@[simp] theorem State.setFn_events (f : Fn) (r : FnRecord) : (s.setFn f r).events = s.events := rfl
@[simp] theorem State.setFn_settings (f : Fn) (r : FnRecord) : (s.setFn f r).settings = s.settings := rfl
@[simp] theorem State.setFn_tables (f : Fn) (r : FnRecord) : (s.setFn f r).tables = s.tables := rfl
@[simp] theorem State.setFn_clockActs (f : Fn) (r : FnRecord) : (s.setFn f r).clockActs = s.clockActs := rfl

/-! ### setInput -/

@[simp] theorem State.setInput_pending (i : Fin 12) (x : Input) : (s.setInput i x).pending = s.pending := rfl
@[simp] theorem State.setInput_powered (i : Fin 12) (x : Input) : (s.setInput i x).powered = s.powered := rfl
@[simp] theorem State.setInput_restarting (i : Fin 12) (x : Input) :
    (s.setInput i x).restarting = s.restarting :=
  rfl
@[simp] theorem State.setInput_inputs (i : Fin 12) (x : Input) :
    (s.setInput i x).inputs = s.inputs.set i x :=
  rfl
@[simp] theorem State.setInput_functions (i : Fin 12) (x : Input) :
    (s.setInput i x).functions = s.functions :=
  rfl
@[simp] theorem State.setInput_reservation (i : Fin 12) (x : Input) :
    (s.setInput i x).reservation = s.reservation :=
  rfl
@[simp] theorem State.setInput_flasher (i : Fin 12) (x : Input) : (s.setInput i x).flasher = s.flasher := rfl
@[simp] theorem State.setInput_channels (i : Fin 12) (x : Input) :
    (s.setInput i x).channels = s.channels :=
  rfl
@[simp] theorem State.setInput_senders (i : Fin 12) (x : Input) : (s.setInput i x).senders = s.senders := rfl
@[simp] theorem State.setInput_gauges (i : Fin 12) (x : Input) : (s.setInput i x).gauges = s.gauges := rfl
@[simp] theorem State.setInput_fan (i : Fin 12) (x : Input) : (s.setInput i x).fan = s.fan := rfl
@[simp] theorem State.setInput_supply (i : Fin 12) (x : Input) : (s.setInput i x).supply = s.supply := rfl
@[simp] theorem State.setInput_store (i : Fin 12) (x : Input) : (s.setInput i x).store = s.store := rfl
@[simp] theorem State.setInput_link (i : Fin 12) (x : Input) : (s.setInput i x).link = s.link := rfl
@[simp] theorem State.setInput_events (i : Fin 12) (x : Input) : (s.setInput i x).events = s.events := rfl
@[simp] theorem State.setInput_settings (i : Fin 12) (x : Input) :
    (s.setInput i x).settings = s.settings :=
  rfl
@[simp] theorem State.setInput_tables (i : Fin 12) (x : Input) : (s.setInput i x).tables = s.tables := rfl
@[simp] theorem State.setInput_clockActs (i : Fin 12) (x : Input) :
    (s.setInput i x).clockActs = s.clockActs :=
  rfl

/-! ### setChannel -/

@[simp] theorem State.setChannel_pending (c : Fin 16) (x : Channel) :
    (s.setChannel c x).pending = s.pending :=
  rfl
@[simp] theorem State.setChannel_powered (c : Fin 16) (x : Channel) :
    (s.setChannel c x).powered = s.powered :=
  rfl
@[simp] theorem State.setChannel_restarting (c : Fin 16) (x : Channel) :
    (s.setChannel c x).restarting = s.restarting :=
  rfl
@[simp] theorem State.setChannel_inputs (c : Fin 16) (x : Channel) :
    (s.setChannel c x).inputs = s.inputs :=
  rfl
@[simp] theorem State.setChannel_functions (c : Fin 16) (x : Channel) :
    (s.setChannel c x).functions = s.functions :=
  rfl
@[simp] theorem State.setChannel_reservation (c : Fin 16) (x : Channel) :
    (s.setChannel c x).reservation = s.reservation :=
  rfl
@[simp] theorem State.setChannel_flasher (c : Fin 16) (x : Channel) :
    (s.setChannel c x).flasher = s.flasher :=
  rfl
@[simp] theorem State.setChannel_channels (c : Fin 16) (x : Channel) :
    (s.setChannel c x).channels = s.channels.set c x :=
  rfl
@[simp] theorem State.setChannel_senders (c : Fin 16) (x : Channel) :
    (s.setChannel c x).senders = s.senders :=
  rfl
@[simp] theorem State.setChannel_gauges (c : Fin 16) (x : Channel) :
    (s.setChannel c x).gauges = s.gauges :=
  rfl
@[simp] theorem State.setChannel_fan (c : Fin 16) (x : Channel) : (s.setChannel c x).fan = s.fan := rfl
@[simp] theorem State.setChannel_supply (c : Fin 16) (x : Channel) :
    (s.setChannel c x).supply = s.supply :=
  rfl
@[simp] theorem State.setChannel_store (c : Fin 16) (x : Channel) : (s.setChannel c x).store = s.store := rfl
@[simp] theorem State.setChannel_link (c : Fin 16) (x : Channel) : (s.setChannel c x).link = s.link := rfl
@[simp] theorem State.setChannel_events (c : Fin 16) (x : Channel) :
    (s.setChannel c x).events = s.events :=
  rfl
@[simp] theorem State.setChannel_settings (c : Fin 16) (x : Channel) :
    (s.setChannel c x).settings = s.settings :=
  rfl
@[simp] theorem State.setChannel_tables (c : Fin 16) (x : Channel) :
    (s.setChannel c x).tables = s.tables :=
  rfl
@[simp] theorem State.setChannel_clockActs (c : Fin 16) (x : Channel) :
    (s.setChannel c x).clockActs = s.clockActs :=
  rfl

/-! ### setSender -/

@[simp] theorem State.setSender_pending (n : Fin 4) (x : Sender) :
    (s.setSender n x).pending = s.pending :=
  rfl
@[simp] theorem State.setSender_powered (n : Fin 4) (x : Sender) :
    (s.setSender n x).powered = s.powered :=
  rfl
@[simp] theorem State.setSender_restarting (n : Fin 4) (x : Sender) :
    (s.setSender n x).restarting = s.restarting :=
  rfl
@[simp] theorem State.setSender_inputs (n : Fin 4) (x : Sender) : (s.setSender n x).inputs = s.inputs := rfl
@[simp] theorem State.setSender_functions (n : Fin 4) (x : Sender) :
    (s.setSender n x).functions = s.functions :=
  rfl
@[simp] theorem State.setSender_reservation (n : Fin 4) (x : Sender) :
    (s.setSender n x).reservation = s.reservation :=
  rfl
@[simp] theorem State.setSender_flasher (n : Fin 4) (x : Sender) :
    (s.setSender n x).flasher = s.flasher :=
  rfl
@[simp] theorem State.setSender_channels (n : Fin 4) (x : Sender) :
    (s.setSender n x).channels = s.channels :=
  rfl
@[simp] theorem State.setSender_senders (n : Fin 4) (x : Sender) :
    (s.setSender n x).senders = s.senders.set n x :=
  rfl
@[simp] theorem State.setSender_gauges (n : Fin 4) (x : Sender) : (s.setSender n x).gauges = s.gauges := rfl
@[simp] theorem State.setSender_fan (n : Fin 4) (x : Sender) : (s.setSender n x).fan = s.fan := rfl
@[simp] theorem State.setSender_supply (n : Fin 4) (x : Sender) : (s.setSender n x).supply = s.supply := rfl
@[simp] theorem State.setSender_store (n : Fin 4) (x : Sender) : (s.setSender n x).store = s.store := rfl
@[simp] theorem State.setSender_link (n : Fin 4) (x : Sender) : (s.setSender n x).link = s.link := rfl
@[simp] theorem State.setSender_events (n : Fin 4) (x : Sender) : (s.setSender n x).events = s.events := rfl
@[simp] theorem State.setSender_settings (n : Fin 4) (x : Sender) :
    (s.setSender n x).settings = s.settings :=
  rfl
@[simp] theorem State.setSender_tables (n : Fin 4) (x : Sender) : (s.setSender n x).tables = s.tables := rfl
@[simp] theorem State.setSender_clockActs (n : Fin 4) (x : Sender) :
    (s.setSender n x).clockActs = s.clockActs :=
  rfl

/-! ### setGauge -/

@[simp] theorem State.setGauge_pending (g : Fin 4) (x : Gauge) : (s.setGauge g x).pending = s.pending := rfl
@[simp] theorem State.setGauge_powered (g : Fin 4) (x : Gauge) : (s.setGauge g x).powered = s.powered := rfl
@[simp] theorem State.setGauge_restarting (g : Fin 4) (x : Gauge) :
    (s.setGauge g x).restarting = s.restarting :=
  rfl
@[simp] theorem State.setGauge_inputs (g : Fin 4) (x : Gauge) : (s.setGauge g x).inputs = s.inputs := rfl
@[simp] theorem State.setGauge_functions (g : Fin 4) (x : Gauge) :
    (s.setGauge g x).functions = s.functions :=
  rfl
@[simp] theorem State.setGauge_reservation (g : Fin 4) (x : Gauge) :
    (s.setGauge g x).reservation = s.reservation :=
  rfl
@[simp] theorem State.setGauge_flasher (g : Fin 4) (x : Gauge) : (s.setGauge g x).flasher = s.flasher := rfl
@[simp] theorem State.setGauge_channels (g : Fin 4) (x : Gauge) :
    (s.setGauge g x).channels = s.channels :=
  rfl
@[simp] theorem State.setGauge_senders (g : Fin 4) (x : Gauge) : (s.setGauge g x).senders = s.senders := rfl
@[simp] theorem State.setGauge_gauges (g : Fin 4) (x : Gauge) :
    (s.setGauge g x).gauges = s.gauges.set g x :=
  rfl
@[simp] theorem State.setGauge_fan (g : Fin 4) (x : Gauge) : (s.setGauge g x).fan = s.fan := rfl
@[simp] theorem State.setGauge_supply (g : Fin 4) (x : Gauge) : (s.setGauge g x).supply = s.supply := rfl
@[simp] theorem State.setGauge_store (g : Fin 4) (x : Gauge) : (s.setGauge g x).store = s.store := rfl
@[simp] theorem State.setGauge_link (g : Fin 4) (x : Gauge) : (s.setGauge g x).link = s.link := rfl
@[simp] theorem State.setGauge_events (g : Fin 4) (x : Gauge) : (s.setGauge g x).events = s.events := rfl
@[simp] theorem State.setGauge_settings (g : Fin 4) (x : Gauge) :
    (s.setGauge g x).settings = s.settings :=
  rfl
@[simp] theorem State.setGauge_tables (g : Fin 4) (x : Gauge) : (s.setGauge g x).tables = s.tables := rfl
@[simp] theorem State.setGauge_clockActs (g : Fin 4) (x : Gauge) :
    (s.setGauge g x).clockActs = s.clockActs :=
  rfl

/-! ### raise -/

@[simp] theorem State.raise_pending (e : Event) (d : Nat) : (s.raise e d).pending = s.pending := rfl
@[simp] theorem State.raise_powered (e : Event) (d : Nat) : (s.raise e d).powered = s.powered := rfl
@[simp] theorem State.raise_restarting (e : Event) (d : Nat) : (s.raise e d).restarting = s.restarting := rfl
@[simp] theorem State.raise_inputs (e : Event) (d : Nat) : (s.raise e d).inputs = s.inputs := rfl
@[simp] theorem State.raise_functions (e : Event) (d : Nat) : (s.raise e d).functions = s.functions := rfl
@[simp] theorem State.raise_reservation (e : Event) (d : Nat) :
    (s.raise e d).reservation = s.reservation :=
  rfl
@[simp] theorem State.raise_flasher (e : Event) (d : Nat) : (s.raise e d).flasher = s.flasher := rfl
@[simp] theorem State.raise_channels (e : Event) (d : Nat) : (s.raise e d).channels = s.channels := rfl
@[simp] theorem State.raise_senders (e : Event) (d : Nat) : (s.raise e d).senders = s.senders := rfl
@[simp] theorem State.raise_gauges (e : Event) (d : Nat) : (s.raise e d).gauges = s.gauges := rfl
@[simp] theorem State.raise_fan (e : Event) (d : Nat) : (s.raise e d).fan = s.fan := rfl
@[simp] theorem State.raise_supply (e : Event) (d : Nat) : (s.raise e d).supply = s.supply := rfl
@[simp] theorem State.raise_store (e : Event) (d : Nat) : (s.raise e d).store = s.store := rfl
@[simp] theorem State.raise_link (e : Event) (d : Nat) : (s.raise e d).link = s.link := rfl
@[simp] theorem State.raise_events (e : Event) (d : Nat) :
    (s.raise e d).events = s.events.set e.idx ⟨true, d⟩ :=
  rfl
@[simp] theorem State.raise_settings (e : Event) (d : Nat) : (s.raise e d).settings = s.settings := rfl
@[simp] theorem State.raise_tables (e : Event) (d : Nat) : (s.raise e d).tables = s.tables := rfl
@[simp] theorem State.raise_clockActs (e : Event) (d : Nat) : (s.raise e d).clockActs = s.clockActs := rfl

/-! ### clearFlags -/

@[simp] theorem State.clearFlags_pending : s.clearFlags.pending = s.pending := rfl
@[simp] theorem State.clearFlags_powered : s.clearFlags.powered = s.powered := rfl
@[simp] theorem State.clearFlags_restarting : s.clearFlags.restarting = s.restarting := rfl
@[simp] theorem State.clearFlags_inputs : s.clearFlags.inputs = s.inputs := rfl
@[simp] theorem State.clearFlags_functions : s.clearFlags.functions = s.functions := rfl
@[simp] theorem State.clearFlags_reservation : s.clearFlags.reservation = s.reservation := rfl
@[simp] theorem State.clearFlags_flasher : s.clearFlags.flasher = s.flasher := rfl
@[simp] theorem State.clearFlags_channels : s.clearFlags.channels = s.channels := rfl
@[simp] theorem State.clearFlags_senders : s.clearFlags.senders = s.senders := rfl
@[simp] theorem State.clearFlags_gauges : s.clearFlags.gauges = s.gauges := rfl
@[simp] theorem State.clearFlags_fan : s.clearFlags.fan = s.fan := rfl
@[simp] theorem State.clearFlags_supply : s.clearFlags.supply = s.supply := rfl
@[simp] theorem State.clearFlags_store : s.clearFlags.store = s.store := rfl
@[simp] theorem State.clearFlags_link : s.clearFlags.link = s.link := rfl
@[simp] theorem State.clearFlags_events :
    s.clearFlags.events = vecOfFn fun e => { s.events[e] with flag := false } :=
  rfl
@[simp] theorem State.clearFlags_settings : s.clearFlags.settings = s.settings := rfl
@[simp] theorem State.clearFlags_tables : s.clearFlags.tables = s.tables := rfl
@[simp] theorem State.clearFlags_clockActs : s.clearFlags.clockActs = s.clockActs := rfl

/-! ### clearReservation -/

@[simp] theorem State.clearReservation_pending (f : Fn) : (s.clearReservation f).pending = s.pending := rfl
@[simp] theorem State.clearReservation_powered (f : Fn) : (s.clearReservation f).powered = s.powered := rfl
@[simp] theorem State.clearReservation_restarting (f : Fn) :
    (s.clearReservation f).restarting = s.restarting :=
  rfl
@[simp] theorem State.clearReservation_inputs (f : Fn) : (s.clearReservation f).inputs = s.inputs := rfl
@[simp] theorem State.clearReservation_functions (f : Fn) :
    (s.clearReservation f).functions = s.functions :=
  rfl
@[simp] theorem State.clearReservation_reservation (f : Fn) :
    (s.clearReservation f).reservation = if s.reservation = some f then none else s.reservation :=
  rfl
@[simp] theorem State.clearReservation_flasher (f : Fn) : (s.clearReservation f).flasher = s.flasher := rfl
@[simp] theorem State.clearReservation_channels (f : Fn) : (s.clearReservation f).channels = s.channels := rfl
@[simp] theorem State.clearReservation_senders (f : Fn) : (s.clearReservation f).senders = s.senders := rfl
@[simp] theorem State.clearReservation_gauges (f : Fn) : (s.clearReservation f).gauges = s.gauges := rfl
@[simp] theorem State.clearReservation_fan (f : Fn) : (s.clearReservation f).fan = s.fan := rfl
@[simp] theorem State.clearReservation_supply (f : Fn) : (s.clearReservation f).supply = s.supply := rfl
@[simp] theorem State.clearReservation_store (f : Fn) : (s.clearReservation f).store = s.store := rfl
@[simp] theorem State.clearReservation_link (f : Fn) : (s.clearReservation f).link = s.link := rfl
@[simp] theorem State.clearReservation_events (f : Fn) : (s.clearReservation f).events = s.events := rfl
@[simp] theorem State.clearReservation_settings (f : Fn) : (s.clearReservation f).settings = s.settings := rfl
@[simp] theorem State.clearReservation_tables (f : Fn) : (s.clearReservation f).tables = s.tables := rfl
@[simp] theorem State.clearReservation_clockActs (f : Fn) :
    (s.clearReservation f).clockActs = s.clockActs :=
  rfl

/-! ### withMode -/

@[simp] theorem State.withMode_pending (f : Fn) (m : SourceMode) : (s.withMode f m).pending = s.pending := rfl
@[simp] theorem State.withMode_powered (f : Fn) (m : SourceMode) : (s.withMode f m).powered = s.powered := rfl
@[simp] theorem State.withMode_restarting (f : Fn) (m : SourceMode) :
    (s.withMode f m).restarting = s.restarting :=
  rfl
@[simp] theorem State.withMode_inputs (f : Fn) (m : SourceMode) : (s.withMode f m).inputs = s.inputs := rfl
@[simp] theorem State.withMode_functions (f : Fn) (m : SourceMode) :
    (s.withMode f m).functions = s.functions :=
  rfl
@[simp] theorem State.withMode_reservation (f : Fn) (m : SourceMode) :
    (s.withMode f m).reservation = s.reservation :=
  rfl
@[simp] theorem State.withMode_flasher (f : Fn) (m : SourceMode) : (s.withMode f m).flasher = s.flasher := rfl
@[simp] theorem State.withMode_channels (f : Fn) (m : SourceMode) :
    (s.withMode f m).channels = s.channels :=
  rfl
@[simp] theorem State.withMode_senders (f : Fn) (m : SourceMode) : (s.withMode f m).senders = s.senders := rfl
@[simp] theorem State.withMode_gauges (f : Fn) (m : SourceMode) : (s.withMode f m).gauges = s.gauges := rfl
@[simp] theorem State.withMode_fan (f : Fn) (m : SourceMode) : (s.withMode f m).fan = s.fan := rfl
@[simp] theorem State.withMode_supply (f : Fn) (m : SourceMode) : (s.withMode f m).supply = s.supply := rfl
@[simp] theorem State.withMode_store (f : Fn) (m : SourceMode) : (s.withMode f m).store = s.store := rfl
@[simp] theorem State.withMode_link (f : Fn) (m : SourceMode) : (s.withMode f m).link = s.link := rfl
@[simp] theorem State.withMode_events (f : Fn) (m : SourceMode) : (s.withMode f m).events = s.events := rfl
@[simp] theorem State.withMode_settings (f : Fn) (m : SourceMode) :
    (s.withMode f m).settings = { s.settings with modes := s.settings.modes.set f.idx m } :=
  rfl
@[simp] theorem State.withMode_tables (f : Fn) (m : SourceMode) : (s.withMode f m).tables = s.tables := rfl
@[simp] theorem State.withMode_clockActs (f : Fn) (m : SourceMode) :
    (s.withMode f m).clockActs = s.clockActs :=
  rfl

/-! ### withMapEntry -/

@[simp] theorem State.withMapEntry_pending (e : Fin 16) (m : MapEntry) :
    (s.withMapEntry e m).pending = s.pending :=
  rfl
@[simp] theorem State.withMapEntry_powered (e : Fin 16) (m : MapEntry) :
    (s.withMapEntry e m).powered = s.powered :=
  rfl
@[simp] theorem State.withMapEntry_restarting (e : Fin 16) (m : MapEntry) :
    (s.withMapEntry e m).restarting = s.restarting :=
  rfl
@[simp] theorem State.withMapEntry_inputs (e : Fin 16) (m : MapEntry) :
    (s.withMapEntry e m).inputs = s.inputs :=
  rfl
@[simp] theorem State.withMapEntry_functions (e : Fin 16) (m : MapEntry) :
    (s.withMapEntry e m).functions = s.functions :=
  rfl
@[simp] theorem State.withMapEntry_reservation (e : Fin 16) (m : MapEntry) :
    (s.withMapEntry e m).reservation = s.reservation :=
  rfl
@[simp] theorem State.withMapEntry_flasher (e : Fin 16) (m : MapEntry) :
    (s.withMapEntry e m).flasher = s.flasher :=
  rfl
@[simp] theorem State.withMapEntry_channels (e : Fin 16) (m : MapEntry) :
    (s.withMapEntry e m).channels = s.channels :=
  rfl
@[simp] theorem State.withMapEntry_senders (e : Fin 16) (m : MapEntry) :
    (s.withMapEntry e m).senders = s.senders :=
  rfl
@[simp] theorem State.withMapEntry_gauges (e : Fin 16) (m : MapEntry) :
    (s.withMapEntry e m).gauges = s.gauges :=
  rfl
@[simp] theorem State.withMapEntry_fan (e : Fin 16) (m : MapEntry) : (s.withMapEntry e m).fan = s.fan := rfl
@[simp] theorem State.withMapEntry_supply (e : Fin 16) (m : MapEntry) :
    (s.withMapEntry e m).supply = s.supply :=
  rfl
@[simp] theorem State.withMapEntry_store (e : Fin 16) (m : MapEntry) :
    (s.withMapEntry e m).store = s.store :=
  rfl
@[simp] theorem State.withMapEntry_link (e : Fin 16) (m : MapEntry) :
    (s.withMapEntry e m).link = s.link :=
  rfl
@[simp] theorem State.withMapEntry_events (e : Fin 16) (m : MapEntry) :
    (s.withMapEntry e m).events = s.events :=
  rfl
@[simp] theorem State.withMapEntry_settings (e : Fin 16) (m : MapEntry) :
    (s.withMapEntry e m).settings = { s.settings with map := s.settings.map.set e m } :=
  rfl
@[simp] theorem State.withMapEntry_tables (e : Fin 16) (m : MapEntry) :
    (s.withMapEntry e m).tables = s.tables :=
  rfl
@[simp] theorem State.withMapEntry_clockActs (e : Fin 16) (m : MapEntry) :
    (s.withMapEntry e m).clockActs = s.clockActs :=
  rfl

/-! ### withShedClass -/

@[simp] theorem State.withShedClass_pending (r : Role) (k : Nat) :
    (s.withShedClass r k).pending = s.pending :=
  rfl
@[simp] theorem State.withShedClass_powered (r : Role) (k : Nat) :
    (s.withShedClass r k).powered = s.powered :=
  rfl
@[simp] theorem State.withShedClass_restarting (r : Role) (k : Nat) :
    (s.withShedClass r k).restarting = s.restarting :=
  rfl
@[simp] theorem State.withShedClass_inputs (r : Role) (k : Nat) :
    (s.withShedClass r k).inputs = s.inputs :=
  rfl
@[simp] theorem State.withShedClass_functions (r : Role) (k : Nat) :
    (s.withShedClass r k).functions = s.functions :=
  rfl
@[simp] theorem State.withShedClass_reservation (r : Role) (k : Nat) :
    (s.withShedClass r k).reservation = s.reservation :=
  rfl
@[simp] theorem State.withShedClass_flasher (r : Role) (k : Nat) :
    (s.withShedClass r k).flasher = s.flasher :=
  rfl
@[simp] theorem State.withShedClass_channels (r : Role) (k : Nat) :
    (s.withShedClass r k).channels = s.channels :=
  rfl
@[simp] theorem State.withShedClass_senders (r : Role) (k : Nat) :
    (s.withShedClass r k).senders = s.senders :=
  rfl
@[simp] theorem State.withShedClass_gauges (r : Role) (k : Nat) :
    (s.withShedClass r k).gauges = s.gauges :=
  rfl
@[simp] theorem State.withShedClass_fan (r : Role) (k : Nat) : (s.withShedClass r k).fan = s.fan := rfl
@[simp] theorem State.withShedClass_supply (r : Role) (k : Nat) :
    (s.withShedClass r k).supply = s.supply :=
  rfl
@[simp] theorem State.withShedClass_store (r : Role) (k : Nat) : (s.withShedClass r k).store = s.store := rfl
@[simp] theorem State.withShedClass_link (r : Role) (k : Nat) : (s.withShedClass r k).link = s.link := rfl
@[simp] theorem State.withShedClass_events (r : Role) (k : Nat) :
    (s.withShedClass r k).events = s.events :=
  rfl
@[simp] theorem State.withShedClass_settings (r : Role) (k : Nat) :
    (s.withShedClass r k).settings = { s.settings with shedClasses := s.settings.shedClasses.set r.idx k } :=
  rfl
@[simp] theorem State.withShedClass_tables (r : Role) (k : Nat) :
    (s.withShedClass r k).tables = s.tables :=
  rfl
@[simp] theorem State.withShedClass_clockActs (r : Role) (k : Nat) :
    (s.withShedClass r k).clockActs = s.clockActs :=
  rfl

/-! ### withChannelConfig -/

@[simp] theorem State.withChannelConfig_pending (c : Fin 16) (x : ChannelConfig) :
    (s.withChannelConfig c x).pending = s.pending :=
  rfl
@[simp] theorem State.withChannelConfig_powered (c : Fin 16) (x : ChannelConfig) :
    (s.withChannelConfig c x).powered = s.powered :=
  rfl
@[simp] theorem State.withChannelConfig_restarting (c : Fin 16) (x : ChannelConfig) :
    (s.withChannelConfig c x).restarting = s.restarting :=
  rfl
@[simp] theorem State.withChannelConfig_inputs (c : Fin 16) (x : ChannelConfig) :
    (s.withChannelConfig c x).inputs = s.inputs :=
  rfl
@[simp] theorem State.withChannelConfig_functions (c : Fin 16) (x : ChannelConfig) :
    (s.withChannelConfig c x).functions = s.functions :=
  rfl
@[simp] theorem State.withChannelConfig_reservation (c : Fin 16) (x : ChannelConfig) :
    (s.withChannelConfig c x).reservation = s.reservation :=
  rfl
@[simp] theorem State.withChannelConfig_flasher (c : Fin 16) (x : ChannelConfig) :
    (s.withChannelConfig c x).flasher = s.flasher :=
  rfl
@[simp] theorem State.withChannelConfig_channels (c : Fin 16) (x : ChannelConfig) :
    (s.withChannelConfig c x).channels = s.channels :=
  rfl
@[simp] theorem State.withChannelConfig_senders (c : Fin 16) (x : ChannelConfig) :
    (s.withChannelConfig c x).senders = s.senders :=
  rfl
@[simp] theorem State.withChannelConfig_gauges (c : Fin 16) (x : ChannelConfig) :
    (s.withChannelConfig c x).gauges = s.gauges :=
  rfl
@[simp] theorem State.withChannelConfig_fan (c : Fin 16) (x : ChannelConfig) :
    (s.withChannelConfig c x).fan = s.fan :=
  rfl
@[simp] theorem State.withChannelConfig_supply (c : Fin 16) (x : ChannelConfig) :
    (s.withChannelConfig c x).supply = s.supply :=
  rfl
@[simp] theorem State.withChannelConfig_store (c : Fin 16) (x : ChannelConfig) :
    (s.withChannelConfig c x).store = s.store :=
  rfl
@[simp] theorem State.withChannelConfig_link (c : Fin 16) (x : ChannelConfig) :
    (s.withChannelConfig c x).link = s.link :=
  rfl
@[simp] theorem State.withChannelConfig_events (c : Fin 16) (x : ChannelConfig) :
    (s.withChannelConfig c x).events = s.events :=
  rfl
@[simp] theorem State.withChannelConfig_settings (c : Fin 16) (x : ChannelConfig) :
    (s.withChannelConfig c x).settings = { s.settings with channels := s.settings.channels.set c x } :=
  rfl
@[simp] theorem State.withChannelConfig_tables (c : Fin 16) (x : ChannelConfig) :
    (s.withChannelConfig c x).tables = s.tables :=
  rfl
@[simp] theorem State.withChannelConfig_clockActs (c : Fin 16) (x : ChannelConfig) :
    (s.withChannelConfig c x).clockActs = s.clockActs :=
  rfl

/-! ### withStaging -/

@[simp] theorem State.withStaging_pending (b : Option Staging) : (s.withStaging b).pending = s.pending := rfl
@[simp] theorem State.withStaging_powered (b : Option Staging) : (s.withStaging b).powered = s.powered := rfl
@[simp] theorem State.withStaging_restarting (b : Option Staging) :
    (s.withStaging b).restarting = s.restarting :=
  rfl
@[simp] theorem State.withStaging_inputs (b : Option Staging) : (s.withStaging b).inputs = s.inputs := rfl
@[simp] theorem State.withStaging_functions (b : Option Staging) :
    (s.withStaging b).functions = s.functions :=
  rfl
@[simp] theorem State.withStaging_reservation (b : Option Staging) :
    (s.withStaging b).reservation = s.reservation :=
  rfl
@[simp] theorem State.withStaging_flasher (b : Option Staging) : (s.withStaging b).flasher = s.flasher := rfl
@[simp] theorem State.withStaging_channels (b : Option Staging) :
    (s.withStaging b).channels = s.channels :=
  rfl
@[simp] theorem State.withStaging_senders (b : Option Staging) : (s.withStaging b).senders = s.senders := rfl
@[simp] theorem State.withStaging_gauges (b : Option Staging) : (s.withStaging b).gauges = s.gauges := rfl
@[simp] theorem State.withStaging_fan (b : Option Staging) : (s.withStaging b).fan = s.fan := rfl
@[simp] theorem State.withStaging_supply (b : Option Staging) : (s.withStaging b).supply = s.supply := rfl
@[simp] theorem State.withStaging_store (b : Option Staging) :
    (s.withStaging b).store = { s.store with staging := b } :=
  rfl
@[simp] theorem State.withStaging_link (b : Option Staging) : (s.withStaging b).link = s.link := rfl
@[simp] theorem State.withStaging_events (b : Option Staging) : (s.withStaging b).events = s.events := rfl
@[simp] theorem State.withStaging_settings (b : Option Staging) :
    (s.withStaging b).settings = s.settings :=
  rfl
@[simp] theorem State.withStaging_tables (b : Option Staging) : (s.withStaging b).tables = s.tables := rfl
@[simp] theorem State.withStaging_clockActs (b : Option Staging) :
    (s.withStaging b).clockActs = s.clockActs :=
  rfl

/-! ### withPending -/

@[simp] theorem State.withPending_pending (q : List Instr) : (s.withPending q).pending = q := rfl
@[simp] theorem State.withPending_powered (q : List Instr) : (s.withPending q).powered = s.powered := rfl
@[simp] theorem State.withPending_restarting (q : List Instr) :
    (s.withPending q).restarting = s.restarting :=
  rfl
@[simp] theorem State.withPending_inputs (q : List Instr) : (s.withPending q).inputs = s.inputs := rfl
@[simp] theorem State.withPending_functions (q : List Instr) :
    (s.withPending q).functions = s.functions :=
  rfl
@[simp] theorem State.withPending_reservation (q : List Instr) :
    (s.withPending q).reservation = s.reservation :=
  rfl
@[simp] theorem State.withPending_flasher (q : List Instr) : (s.withPending q).flasher = s.flasher := rfl
@[simp] theorem State.withPending_channels (q : List Instr) : (s.withPending q).channels = s.channels := rfl
@[simp] theorem State.withPending_senders (q : List Instr) : (s.withPending q).senders = s.senders := rfl
@[simp] theorem State.withPending_gauges (q : List Instr) : (s.withPending q).gauges = s.gauges := rfl
@[simp] theorem State.withPending_fan (q : List Instr) : (s.withPending q).fan = s.fan := rfl
@[simp] theorem State.withPending_supply (q : List Instr) : (s.withPending q).supply = s.supply := rfl
@[simp] theorem State.withPending_store (q : List Instr) : (s.withPending q).store = s.store := rfl
@[simp] theorem State.withPending_link (q : List Instr) : (s.withPending q).link = s.link := rfl
@[simp] theorem State.withPending_events (q : List Instr) : (s.withPending q).events = s.events := rfl
@[simp] theorem State.withPending_settings (q : List Instr) : (s.withPending q).settings = s.settings := rfl
@[simp] theorem State.withPending_tables (q : List Instr) : (s.withPending q).tables = s.tables := rfl
@[simp] theorem State.withPending_clockActs (q : List Instr) :
    (s.withPending q).clockActs = s.clockActs :=
  rfl

/-! ### receive -/

@[simp] theorem State.receive_pending (r : Receiver) : (s.receive r).pending = s.pending := rfl
@[simp] theorem State.receive_powered (r : Receiver) : (s.receive r).powered = s.powered := rfl
@[simp] theorem State.receive_restarting (r : Receiver) : (s.receive r).restarting = s.restarting := rfl
@[simp] theorem State.receive_inputs (r : Receiver) : (s.receive r).inputs = s.inputs := rfl
@[simp] theorem State.receive_functions (r : Receiver) : (s.receive r).functions = s.functions := rfl
@[simp] theorem State.receive_reservation (r : Receiver) : (s.receive r).reservation = s.reservation := rfl
@[simp] theorem State.receive_flasher (r : Receiver) : (s.receive r).flasher = s.flasher := rfl
@[simp] theorem State.receive_channels (r : Receiver) : (s.receive r).channels = s.channels := rfl
@[simp] theorem State.receive_senders (r : Receiver) : (s.receive r).senders = s.senders := rfl
@[simp] theorem State.receive_gauges (r : Receiver) : (s.receive r).gauges = s.gauges := rfl
@[simp] theorem State.receive_fan (r : Receiver) : (s.receive r).fan = s.fan := rfl
@[simp] theorem State.receive_supply (r : Receiver) : (s.receive r).supply = s.supply := rfl
@[simp] theorem State.receive_store (r : Receiver) : (s.receive r).store = s.store := rfl
@[simp] theorem State.receive_link (r : Receiver) :
    (s.receive r).link = { s.link with receiver := r, gap := 0 } :=
  rfl
@[simp] theorem State.receive_events (r : Receiver) : (s.receive r).events = s.events := rfl
@[simp] theorem State.receive_settings (r : Receiver) : (s.receive r).settings = s.settings := rfl
@[simp] theorem State.receive_tables (r : Receiver) : (s.receive r).tables = s.tables := rfl
@[simp] theorem State.receive_clockActs (r : Receiver) : (s.receive r).clockActs = s.clockActs := rfl

/-! ### clockActed -/

@[simp] theorem State.clockActed_pending : s.clockActed.pending = s.pending := rfl
@[simp] theorem State.clockActed_powered : s.clockActed.powered = s.powered := rfl
@[simp] theorem State.clockActed_restarting : s.clockActed.restarting = s.restarting := rfl
@[simp] theorem State.clockActed_inputs : s.clockActed.inputs = s.inputs := rfl
@[simp] theorem State.clockActed_functions : s.clockActed.functions = s.functions := rfl
@[simp] theorem State.clockActed_reservation : s.clockActed.reservation = s.reservation := rfl
@[simp] theorem State.clockActed_flasher : s.clockActed.flasher = s.flasher := rfl
@[simp] theorem State.clockActed_channels : s.clockActed.channels = s.channels := rfl
@[simp] theorem State.clockActed_senders : s.clockActed.senders = s.senders := rfl
@[simp] theorem State.clockActed_gauges : s.clockActed.gauges = s.gauges := rfl
@[simp] theorem State.clockActed_fan : s.clockActed.fan = s.fan := rfl
@[simp] theorem State.clockActed_supply : s.clockActed.supply = s.supply := rfl
@[simp] theorem State.clockActed_store : s.clockActed.store = s.store := rfl
@[simp] theorem State.clockActed_link : s.clockActed.link = s.link := rfl
@[simp] theorem State.clockActed_events : s.clockActed.events = s.events := rfl
@[simp] theorem State.clockActed_settings : s.clockActed.settings = s.settings := rfl
@[simp] theorem State.clockActed_tables : s.clockActed.tables = s.tables := rfl
@[simp] theorem State.clockActed_clockActs : s.clockActed.clockActs = s.clockActs + 1 := rfl

/-! ### runTimers -/

@[simp] theorem State.runTimers_pending (bat : Nat) : (s.runTimers bat).pending = s.pending := rfl
@[simp] theorem State.runTimers_powered (bat : Nat) : (s.runTimers bat).powered = s.powered := rfl
@[simp] theorem State.runTimers_restarting (bat : Nat) : (s.runTimers bat).restarting = s.restarting := rfl
@[simp] theorem State.runTimers_inputs (bat : Nat) : (s.runTimers bat).inputs = s.inputs := rfl
@[simp] theorem State.runTimers_functions (bat : Nat) : (s.runTimers bat).functions = s.functions := rfl
@[simp] theorem State.runTimers_reservation (bat : Nat) : (s.runTimers bat).reservation = s.reservation := rfl
@[simp] theorem State.runTimers_flasher (bat : Nat) : (s.runTimers bat).flasher = s.flasher := rfl
@[simp] theorem State.runTimers_channels (bat : Nat) : (s.runTimers bat).channels = s.channels := rfl
@[simp] theorem State.runTimers_senders (bat : Nat) : (s.runTimers bat).senders = s.senders := rfl
@[simp] theorem State.runTimers_gauges (bat : Nat) : (s.runTimers bat).gauges = s.gauges := rfl
@[simp] theorem State.runTimers_fan (bat : Nat) : (s.runTimers bat).fan = s.fan := rfl
@[simp] theorem State.runTimers_supply (bat : Nat) :
    (s.runTimers bat).supply = { s.supply with timers := s.timersAfter bat } :=
  rfl
@[simp] theorem State.runTimers_store (bat : Nat) : (s.runTimers bat).store = s.store := rfl
@[simp] theorem State.runTimers_link (bat : Nat) : (s.runTimers bat).link = s.link := rfl
@[simp] theorem State.runTimers_events (bat : Nat) : (s.runTimers bat).events = s.events := rfl
@[simp] theorem State.runTimers_settings (bat : Nat) : (s.runTimers bat).settings = s.settings := rfl
@[simp] theorem State.runTimers_tables (bat : Nat) : (s.runTimers bat).tables = s.tables := rfl
@[simp] theorem State.runTimers_clockActs (bat : Nat) : (s.runTimers bat).clockActs = s.clockActs := rfl

/-! ### rearm -/

@[simp] theorem State.rearm_pending (bat : Nat) : (s.rearm bat).pending = s.pending := rfl
@[simp] theorem State.rearm_powered (bat : Nat) : (s.rearm bat).powered = s.powered := rfl
@[simp] theorem State.rearm_restarting (bat : Nat) : (s.rearm bat).restarting = s.restarting := rfl
@[simp] theorem State.rearm_inputs (bat : Nat) : (s.rearm bat).inputs = s.inputs := rfl
@[simp] theorem State.rearm_functions (bat : Nat) : (s.rearm bat).functions = s.functions := rfl
@[simp] theorem State.rearm_reservation (bat : Nat) : (s.rearm bat).reservation = s.reservation := rfl
@[simp] theorem State.rearm_flasher (bat : Nat) : (s.rearm bat).flasher = s.flasher := rfl
@[simp] theorem State.rearm_channels (bat : Nat) : (s.rearm bat).channels = s.channels := rfl
@[simp] theorem State.rearm_senders (bat : Nat) : (s.rearm bat).senders = s.senders := rfl
@[simp] theorem State.rearm_gauges (bat : Nat) : (s.rearm bat).gauges = s.gauges := rfl
@[simp] theorem State.rearm_fan (bat : Nat) : (s.rearm bat).fan = s.fan := rfl
@[simp] theorem State.rearm_supply (bat : Nat) :
    (s.rearm bat).supply = { s.supply with armed := s.supply.armed || (s.supply.state == .shed && decide (s.settings.supply.crankEnter ≤ bat)) } :=
  rfl
@[simp] theorem State.rearm_store (bat : Nat) : (s.rearm bat).store = s.store := rfl
@[simp] theorem State.rearm_link (bat : Nat) : (s.rearm bat).link = s.link := rfl
@[simp] theorem State.rearm_events (bat : Nat) : (s.rearm bat).events = s.events := rfl
@[simp] theorem State.rearm_settings (bat : Nat) : (s.rearm bat).settings = s.settings := rfl
@[simp] theorem State.rearm_tables (bat : Nat) : (s.rearm bat).tables = s.tables := rfl
@[simp] theorem State.rearm_clockActs (bat : Nat) : (s.rearm bat).clockActs = s.clockActs := rfl

/-! ### endSettle -/

@[simp] theorem State.endSettle_pending : s.endSettle.pending = s.pending := rfl
@[simp] theorem State.endSettle_powered : s.endSettle.powered = s.powered := rfl
@[simp] theorem State.endSettle_restarting : s.endSettle.restarting = s.restarting := rfl
@[simp] theorem State.endSettle_inputs : s.endSettle.inputs = s.inputs := rfl
@[simp] theorem State.endSettle_functions : s.endSettle.functions = s.functions := rfl
@[simp] theorem State.endSettle_reservation : s.endSettle.reservation = s.reservation := rfl
@[simp] theorem State.endSettle_flasher : s.endSettle.flasher = s.flasher := rfl
@[simp] theorem State.endSettle_channels : s.endSettle.channels = s.channels := rfl
@[simp] theorem State.endSettle_senders : s.endSettle.senders = s.senders := rfl
@[simp] theorem State.endSettle_gauges : s.endSettle.gauges = s.gauges := rfl
@[simp] theorem State.endSettle_fan :
    s.endSettle.fan = { s.fan with settle := none, targetStep := s.chosenStep } :=
  rfl
@[simp] theorem State.endSettle_supply : s.endSettle.supply = s.supply := rfl
@[simp] theorem State.endSettle_store : s.endSettle.store = s.store := rfl
@[simp] theorem State.endSettle_link : s.endSettle.link = s.link := rfl
@[simp] theorem State.endSettle_events : s.endSettle.events = s.events := rfl
@[simp] theorem State.endSettle_settings : s.endSettle.settings = s.settings := rfl
@[simp] theorem State.endSettle_tables : s.endSettle.tables = s.tables := rfl
@[simp] theorem State.endSettle_clockActs : s.endSettle.clockActs = s.clockActs := rfl

/-! ### dropStep -/

@[simp] theorem State.dropStep_pending : s.dropStep.pending = s.pending := rfl
@[simp] theorem State.dropStep_powered : s.dropStep.powered = s.powered := rfl
@[simp] theorem State.dropStep_restarting : s.dropStep.restarting = s.restarting := rfl
@[simp] theorem State.dropStep_inputs : s.dropStep.inputs = s.inputs := rfl
@[simp] theorem State.dropStep_functions : s.dropStep.functions = s.functions := rfl
@[simp] theorem State.dropStep_reservation : s.dropStep.reservation = s.reservation := rfl
@[simp] theorem State.dropStep_flasher : s.dropStep.flasher = s.flasher := rfl
@[simp] theorem State.dropStep_channels : s.dropStep.channels = s.channels := rfl
@[simp] theorem State.dropStep_senders : s.dropStep.senders = s.senders := rfl
@[simp] theorem State.dropStep_gauges : s.dropStep.gauges = s.gauges := rfl
@[simp] theorem State.dropStep_fan : s.dropStep.fan = { s.fan with settle := none, targetStep := 0 } := rfl
@[simp] theorem State.dropStep_supply : s.dropStep.supply = s.supply := rfl
@[simp] theorem State.dropStep_store : s.dropStep.store = s.store := rfl
@[simp] theorem State.dropStep_link : s.dropStep.link = s.link := rfl
@[simp] theorem State.dropStep_events : s.dropStep.events = s.events := rfl
@[simp] theorem State.dropStep_settings : s.dropStep.settings = s.settings := rfl
@[simp] theorem State.dropStep_tables : s.dropStep.tables = s.tables := rfl
@[simp] theorem State.dropStep_clockActs : s.dropStep.clockActs = s.clockActs := rfl

/-! ### fanFollow -/

@[simp] theorem State.fanFollow_pending : s.fanFollow.pending = s.pending := rfl
@[simp] theorem State.fanFollow_powered : s.fanFollow.powered = s.powered := rfl
@[simp] theorem State.fanFollow_restarting : s.fanFollow.restarting = s.restarting := rfl
@[simp] theorem State.fanFollow_inputs : s.fanFollow.inputs = s.inputs := rfl
@[simp] theorem State.fanFollow_functions : s.fanFollow.functions = s.functions := rfl
@[simp] theorem State.fanFollow_reservation : s.fanFollow.reservation = s.reservation := rfl
@[simp] theorem State.fanFollow_flasher : s.fanFollow.flasher = s.flasher := rfl
@[simp] theorem State.fanFollow_channels : s.fanFollow.channels = s.channels := rfl
@[simp] theorem State.fanFollow_senders : s.fanFollow.senders = s.senders := rfl
@[simp] theorem State.fanFollow_gauges : s.fanFollow.gauges = s.gauges := rfl
@[simp] theorem State.fanFollow_fan :
    s.fanFollow.fan = s.fan.follow s.settings.fan.rampStep s.fanTarget :=
  rfl
@[simp] theorem State.fanFollow_supply : s.fanFollow.supply = s.supply := rfl
@[simp] theorem State.fanFollow_store : s.fanFollow.store = s.store := rfl
@[simp] theorem State.fanFollow_link : s.fanFollow.link = s.link := rfl
@[simp] theorem State.fanFollow_events : s.fanFollow.events = s.events := rfl
@[simp] theorem State.fanFollow_settings : s.fanFollow.settings = s.settings := rfl
@[simp] theorem State.fanFollow_tables : s.fanFollow.tables = s.tables := rfl
@[simp] theorem State.fanFollow_clockActs : s.fanFollow.clockActs = s.clockActs := rfl

/-! ### runOnFollow -/

@[simp] theorem State.runOnFollow_pending : s.runOnFollow.pending = s.pending := rfl
@[simp] theorem State.runOnFollow_powered : s.runOnFollow.powered = s.powered := rfl
@[simp] theorem State.runOnFollow_restarting : s.runOnFollow.restarting = s.restarting := rfl
@[simp] theorem State.runOnFollow_inputs : s.runOnFollow.inputs = s.inputs := rfl
@[simp] theorem State.runOnFollow_functions : s.runOnFollow.functions = s.functions := rfl
@[simp] theorem State.runOnFollow_reservation : s.runOnFollow.reservation = s.reservation := rfl
@[simp] theorem State.runOnFollow_flasher :
    s.runOnFollow.flasher = { s.flasher with leftRunOn := followTimer (s.runOnRuns .left) s.flasher.leftRunOn, rightRunOn := followTimer (s.runOnRuns .right) s.flasher.rightRunOn } :=
  rfl
@[simp] theorem State.runOnFollow_channels : s.runOnFollow.channels = s.channels := rfl
@[simp] theorem State.runOnFollow_senders : s.runOnFollow.senders = s.senders := rfl
@[simp] theorem State.runOnFollow_gauges : s.runOnFollow.gauges = s.gauges := rfl
@[simp] theorem State.runOnFollow_fan : s.runOnFollow.fan = s.fan := rfl
@[simp] theorem State.runOnFollow_supply : s.runOnFollow.supply = s.supply := rfl
@[simp] theorem State.runOnFollow_store : s.runOnFollow.store = s.store := rfl
@[simp] theorem State.runOnFollow_link : s.runOnFollow.link = s.link := rfl
@[simp] theorem State.runOnFollow_events : s.runOnFollow.events = s.events := rfl
@[simp] theorem State.runOnFollow_settings : s.runOnFollow.settings = s.settings := rfl
@[simp] theorem State.runOnFollow_tables : s.runOnFollow.tables = s.tables := rfl
@[simp] theorem State.runOnFollow_clockActs : s.runOnFollow.clockActs = s.clockActs := rfl

/-! ### channelsFollow -/

@[simp] theorem State.channelsFollow_pending : s.channelsFollow.pending = s.pending := rfl
@[simp] theorem State.channelsFollow_powered : s.channelsFollow.powered = s.powered := rfl
@[simp] theorem State.channelsFollow_restarting : s.channelsFollow.restarting = s.restarting := rfl
@[simp] theorem State.channelsFollow_inputs : s.channelsFollow.inputs = s.inputs := rfl
@[simp] theorem State.channelsFollow_functions : s.channelsFollow.functions = s.functions := rfl
@[simp] theorem State.channelsFollow_reservation : s.channelsFollow.reservation = s.reservation := rfl
@[simp] theorem State.channelsFollow_flasher : s.channelsFollow.flasher = s.flasher := rfl
@[simp] theorem State.channelsFollow_channels :
    s.channelsFollow.channels = vecOfFn fun c => (s.channel c).follow (s.channelConfig c).profile (s.called c) :=
  rfl
@[simp] theorem State.channelsFollow_senders : s.channelsFollow.senders = s.senders := rfl
@[simp] theorem State.channelsFollow_gauges : s.channelsFollow.gauges = s.gauges := rfl
@[simp] theorem State.channelsFollow_fan : s.channelsFollow.fan = s.fan := rfl
@[simp] theorem State.channelsFollow_supply : s.channelsFollow.supply = s.supply := rfl
@[simp] theorem State.channelsFollow_store : s.channelsFollow.store = s.store := rfl
@[simp] theorem State.channelsFollow_link : s.channelsFollow.link = s.link := rfl
@[simp] theorem State.channelsFollow_events : s.channelsFollow.events = s.events := rfl
@[simp] theorem State.channelsFollow_settings : s.channelsFollow.settings = s.settings := rfl
@[simp] theorem State.channelsFollow_tables : s.channelsFollow.tables = s.tables := rfl
@[simp] theorem State.channelsFollow_clockActs : s.channelsFollow.clockActs = s.clockActs := rfl

/-! ### answered -/

@[simp] theorem State.answered_pending (frame : Frame) (payload : Reply) :
    (s.answered frame payload).pending = s.pending :=
  rfl
@[simp] theorem State.answered_powered (frame : Frame) (payload : Reply) :
    (s.answered frame payload).powered = s.powered :=
  rfl
@[simp] theorem State.answered_restarting (frame : Frame) (payload : Reply) :
    (s.answered frame payload).restarting = s.restarting :=
  rfl
@[simp] theorem State.answered_inputs (frame : Frame) (payload : Reply) :
    (s.answered frame payload).inputs = s.inputs :=
  rfl
@[simp] theorem State.answered_functions (frame : Frame) (payload : Reply) :
    (s.answered frame payload).functions = s.functions :=
  rfl
@[simp] theorem State.answered_reservation (frame : Frame) (payload : Reply) :
    (s.answered frame payload).reservation = s.reservation :=
  rfl
@[simp] theorem State.answered_flasher (frame : Frame) (payload : Reply) :
    (s.answered frame payload).flasher = s.flasher :=
  rfl
@[simp] theorem State.answered_channels (frame : Frame) (payload : Reply) :
    (s.answered frame payload).channels = s.channels :=
  rfl
@[simp] theorem State.answered_senders (frame : Frame) (payload : Reply) :
    (s.answered frame payload).senders = s.senders :=
  rfl
@[simp] theorem State.answered_gauges (frame : Frame) (payload : Reply) :
    (s.answered frame payload).gauges = s.gauges :=
  rfl
@[simp] theorem State.answered_fan (frame : Frame) (payload : Reply) :
    (s.answered frame payload).fan = s.fan :=
  rfl
@[simp] theorem State.answered_supply (frame : Frame) (payload : Reply) :
    (s.answered frame payload).supply = s.supply :=
  rfl
@[simp] theorem State.answered_store (frame : Frame) (payload : Reply) :
    (s.answered frame payload).store = s.store :=
  rfl
@[simp] theorem State.answered_link (frame : Frame) (payload : Reply) :
    (s.answered frame payload).link = s.linkAfter frame payload :=
  rfl
@[simp] theorem State.answered_events (frame : Frame) (payload : Reply) :
    (s.answered frame payload).events = s.events :=
  rfl
@[simp] theorem State.answered_settings (frame : Frame) (payload : Reply) :
    (s.answered frame payload).settings = s.settings :=
  rfl
@[simp] theorem State.answered_tables (frame : Frame) (payload : Reply) :
    (s.answered frame payload).tables = s.tables :=
  rfl
@[simp] theorem State.answered_clockActs (frame : Frame) (payload : Reply) :
    (s.answered frame payload).clockActs = s.clockActs :=
  rfl

/-! ### takeSamples: the fields it leaves alone -/

@[simp] theorem State.takeSamples_pending (bat dyn : Nat) : (s.takeSamples bat dyn).pending = s.pending := rfl
@[simp] theorem State.takeSamples_powered (bat dyn : Nat) : (s.takeSamples bat dyn).powered = s.powered := rfl
@[simp] theorem State.takeSamples_restarting (bat dyn : Nat) : (s.takeSamples bat dyn).restarting = s.restarting := rfl
@[simp] theorem State.takeSamples_inputs (bat dyn : Nat) : (s.takeSamples bat dyn).inputs = s.inputs := rfl
@[simp] theorem State.takeSamples_functions (bat dyn : Nat) : (s.takeSamples bat dyn).functions = s.functions := rfl
@[simp] theorem State.takeSamples_reservation (bat dyn : Nat) : (s.takeSamples bat dyn).reservation = s.reservation := rfl
@[simp] theorem State.takeSamples_flasher (bat dyn : Nat) : (s.takeSamples bat dyn).flasher = s.flasher := rfl
@[simp] theorem State.takeSamples_channels (bat dyn : Nat) : (s.takeSamples bat dyn).channels = s.channels := rfl
@[simp] theorem State.takeSamples_senders (bat dyn : Nat) : (s.takeSamples bat dyn).senders = s.senders := rfl
@[simp] theorem State.takeSamples_gauges (bat dyn : Nat) : (s.takeSamples bat dyn).gauges = s.gauges := rfl
@[simp] theorem State.takeSamples_fan (bat dyn : Nat) : (s.takeSamples bat dyn).fan = s.fan := rfl
@[simp] theorem State.takeSamples_store (bat dyn : Nat) : (s.takeSamples bat dyn).store = s.store := rfl
@[simp] theorem State.takeSamples_link (bat dyn : Nat) : (s.takeSamples bat dyn).link = s.link := rfl
@[simp] theorem State.takeSamples_events (bat dyn : Nat) : (s.takeSamples bat dyn).events = s.events := rfl
@[simp] theorem State.takeSamples_settings (bat dyn : Nat) : (s.takeSamples bat dyn).settings = s.settings := rfl
@[simp] theorem State.takeSamples_tables (bat dyn : Nat) : (s.takeSamples bat dyn).tables = s.tables := rfl
@[simp] theorem State.takeSamples_clockActs (bat dyn : Nat) : (s.takeSamples bat dyn).clockActs = s.clockActs := rfl

/-! ### beginPhase: the fields it leaves alone -/

@[simp] theorem State.beginPhase_pending (k : Cadence) : (s.beginPhase k).pending = s.pending := rfl
@[simp] theorem State.beginPhase_powered (k : Cadence) : (s.beginPhase k).powered = s.powered := rfl
@[simp] theorem State.beginPhase_restarting (k : Cadence) : (s.beginPhase k).restarting = s.restarting := rfl
@[simp] theorem State.beginPhase_inputs (k : Cadence) : (s.beginPhase k).inputs = s.inputs := rfl
@[simp] theorem State.beginPhase_functions (k : Cadence) : (s.beginPhase k).functions = s.functions := rfl
@[simp] theorem State.beginPhase_reservation (k : Cadence) : (s.beginPhase k).reservation = s.reservation := rfl
@[simp] theorem State.beginPhase_channels (k : Cadence) : (s.beginPhase k).channels = s.channels := rfl
@[simp] theorem State.beginPhase_senders (k : Cadence) : (s.beginPhase k).senders = s.senders := rfl
@[simp] theorem State.beginPhase_gauges (k : Cadence) : (s.beginPhase k).gauges = s.gauges := rfl
@[simp] theorem State.beginPhase_fan (k : Cadence) : (s.beginPhase k).fan = s.fan := rfl
@[simp] theorem State.beginPhase_supply (k : Cadence) : (s.beginPhase k).supply = s.supply := rfl
@[simp] theorem State.beginPhase_store (k : Cadence) : (s.beginPhase k).store = s.store := rfl
@[simp] theorem State.beginPhase_link (k : Cadence) : (s.beginPhase k).link = s.link := rfl
@[simp] theorem State.beginPhase_events (k : Cadence) : (s.beginPhase k).events = s.events := rfl
@[simp] theorem State.beginPhase_settings (k : Cadence) : (s.beginPhase k).settings = s.settings := rfl
@[simp] theorem State.beginPhase_tables (k : Cadence) : (s.beginPhase k).tables = s.tables := rfl
@[simp] theorem State.beginPhase_clockActs (k : Cadence) : (s.beginPhase k).clockActs = s.clockActs := rfl

/-! ### beginProgramming: the fields it leaves alone -/

@[simp] theorem State.beginProgramming_pending (i : Image) : (s.beginProgramming i).pending = s.pending := rfl
@[simp] theorem State.beginProgramming_powered (i : Image) : (s.beginProgramming i).powered = s.powered := rfl
@[simp] theorem State.beginProgramming_restarting (i : Image) : (s.beginProgramming i).restarting = s.restarting := rfl
@[simp] theorem State.beginProgramming_inputs (i : Image) : (s.beginProgramming i).inputs = s.inputs := rfl
@[simp] theorem State.beginProgramming_functions (i : Image) : (s.beginProgramming i).functions = s.functions := rfl
@[simp] theorem State.beginProgramming_reservation (i : Image) : (s.beginProgramming i).reservation = s.reservation := rfl
@[simp] theorem State.beginProgramming_flasher (i : Image) : (s.beginProgramming i).flasher = s.flasher := rfl
@[simp] theorem State.beginProgramming_channels (i : Image) : (s.beginProgramming i).channels = s.channels := rfl
@[simp] theorem State.beginProgramming_senders (i : Image) : (s.beginProgramming i).senders = s.senders := rfl
@[simp] theorem State.beginProgramming_gauges (i : Image) : (s.beginProgramming i).gauges = s.gauges := rfl
@[simp] theorem State.beginProgramming_fan (i : Image) : (s.beginProgramming i).fan = s.fan := rfl
@[simp] theorem State.beginProgramming_supply (i : Image) : (s.beginProgramming i).supply = s.supply := rfl
@[simp] theorem State.beginProgramming_link (i : Image) : (s.beginProgramming i).link = s.link := rfl
@[simp] theorem State.beginProgramming_events (i : Image) : (s.beginProgramming i).events = s.events := rfl
@[simp] theorem State.beginProgramming_settings (i : Image) : (s.beginProgramming i).settings = s.settings := rfl
@[simp] theorem State.beginProgramming_tables (i : Image) : (s.beginProgramming i).tables = s.tables := rfl
@[simp] theorem State.beginProgramming_clockActs (i : Image) : (s.beginProgramming i).clockActs = s.clockActs := rfl

/-! ### failProgramming: the fields it leaves alone -/

@[simp] theorem State.failProgramming_pending (i : Image) (k : FailureCause) : (s.failProgramming i k).pending = s.pending := rfl
@[simp] theorem State.failProgramming_powered (i : Image) (k : FailureCause) : (s.failProgramming i k).powered = s.powered := rfl
@[simp] theorem State.failProgramming_restarting (i : Image) (k : FailureCause) : (s.failProgramming i k).restarting = s.restarting := rfl
@[simp] theorem State.failProgramming_inputs (i : Image) (k : FailureCause) : (s.failProgramming i k).inputs = s.inputs := rfl
@[simp] theorem State.failProgramming_functions (i : Image) (k : FailureCause) : (s.failProgramming i k).functions = s.functions := rfl
@[simp] theorem State.failProgramming_reservation (i : Image) (k : FailureCause) : (s.failProgramming i k).reservation = s.reservation := rfl
@[simp] theorem State.failProgramming_flasher (i : Image) (k : FailureCause) : (s.failProgramming i k).flasher = s.flasher := rfl
@[simp] theorem State.failProgramming_channels (i : Image) (k : FailureCause) : (s.failProgramming i k).channels = s.channels := rfl
@[simp] theorem State.failProgramming_senders (i : Image) (k : FailureCause) : (s.failProgramming i k).senders = s.senders := rfl
@[simp] theorem State.failProgramming_gauges (i : Image) (k : FailureCause) : (s.failProgramming i k).gauges = s.gauges := rfl
@[simp] theorem State.failProgramming_fan (i : Image) (k : FailureCause) : (s.failProgramming i k).fan = s.fan := rfl
@[simp] theorem State.failProgramming_supply (i : Image) (k : FailureCause) : (s.failProgramming i k).supply = s.supply := rfl
@[simp] theorem State.failProgramming_link (i : Image) (k : FailureCause) : (s.failProgramming i k).link = s.link := rfl
@[simp] theorem State.failProgramming_settings (i : Image) (k : FailureCause) : (s.failProgramming i k).settings = s.settings := rfl
@[simp] theorem State.failProgramming_tables (i : Image) (k : FailureCause) : (s.failProgramming i k).tables = s.tables := rfl
@[simp] theorem State.failProgramming_clockActs (i : Image) (k : FailureCause) : (s.failProgramming i k).clockActs = s.clockActs := rfl

/-! ### finishProgramming: the fields it leaves alone -/

@[simp] theorem State.finishProgramming_pending (i : Image) : (s.finishProgramming i).pending = s.pending := rfl
@[simp] theorem State.finishProgramming_powered (i : Image) : (s.finishProgramming i).powered = s.powered := rfl
@[simp] theorem State.finishProgramming_restarting (i : Image) : (s.finishProgramming i).restarting = s.restarting := rfl
@[simp] theorem State.finishProgramming_inputs (i : Image) : (s.finishProgramming i).inputs = s.inputs := rfl
@[simp] theorem State.finishProgramming_functions (i : Image) : (s.finishProgramming i).functions = s.functions := rfl
@[simp] theorem State.finishProgramming_reservation (i : Image) : (s.finishProgramming i).reservation = s.reservation := rfl
@[simp] theorem State.finishProgramming_flasher (i : Image) : (s.finishProgramming i).flasher = s.flasher := rfl
@[simp] theorem State.finishProgramming_channels (i : Image) : (s.finishProgramming i).channels = s.channels := rfl
@[simp] theorem State.finishProgramming_senders (i : Image) : (s.finishProgramming i).senders = s.senders := rfl
@[simp] theorem State.finishProgramming_gauges (i : Image) : (s.finishProgramming i).gauges = s.gauges := rfl
@[simp] theorem State.finishProgramming_fan (i : Image) : (s.finishProgramming i).fan = s.fan := rfl
@[simp] theorem State.finishProgramming_supply (i : Image) : (s.finishProgramming i).supply = s.supply := rfl
@[simp] theorem State.finishProgramming_link (i : Image) : (s.finishProgramming i).link = s.link := rfl
@[simp] theorem State.finishProgramming_settings (i : Image) : (s.finishProgramming i).settings = s.settings := rfl
@[simp] theorem State.finishProgramming_clockActs (i : Image) : (s.finishProgramming i).clockActs = s.clockActs := rfl

/-! ### moveSupply: the fields it leaves alone -/

@[simp] theorem State.moveSupply_pending (n : SupplyState) (a : Bool) : (s.moveSupply n a).pending = s.pending := rfl
@[simp] theorem State.moveSupply_powered (n : SupplyState) (a : Bool) : (s.moveSupply n a).powered = s.powered := rfl
@[simp] theorem State.moveSupply_restarting (n : SupplyState) (a : Bool) : (s.moveSupply n a).restarting = s.restarting := rfl
@[simp] theorem State.moveSupply_inputs (n : SupplyState) (a : Bool) : (s.moveSupply n a).inputs = s.inputs := rfl
@[simp] theorem State.moveSupply_functions (n : SupplyState) (a : Bool) : (s.moveSupply n a).functions = s.functions := rfl
@[simp] theorem State.moveSupply_reservation (n : SupplyState) (a : Bool) : (s.moveSupply n a).reservation = s.reservation := rfl
@[simp] theorem State.moveSupply_flasher (n : SupplyState) (a : Bool) : (s.moveSupply n a).flasher = s.flasher := rfl
@[simp] theorem State.moveSupply_senders (n : SupplyState) (a : Bool) : (s.moveSupply n a).senders = s.senders := rfl
@[simp] theorem State.moveSupply_gauges (n : SupplyState) (a : Bool) : (s.moveSupply n a).gauges = s.gauges := rfl
@[simp] theorem State.moveSupply_store (n : SupplyState) (a : Bool) : (s.moveSupply n a).store = s.store := rfl
@[simp] theorem State.moveSupply_link (n : SupplyState) (a : Bool) : (s.moveSupply n a).link = s.link := rfl
@[simp] theorem State.moveSupply_settings (n : SupplyState) (a : Bool) : (s.moveSupply n a).settings = s.settings := rfl
@[simp] theorem State.moveSupply_tables (n : SupplyState) (a : Bool) : (s.moveSupply n a).tables = s.tables := rfl
@[simp] theorem State.moveSupply_clockActs (n : SupplyState) (a : Bool) : (s.moveSupply n a).clockActs = s.clockActs := rfl

end Sys2Proof.Machine
end

