-- ==== Sys2Proof/Laws/Records.lean ====
section
/-! SUPPORT. Reading one record after an update: of a vector given by its entries, and of each block after one of
its records has been put. -/

namespace Sys2Proof.Machine

/-! ### Vectors -/

@[simp] theorem vecOfFn_getElem {α : Type} {n : Nat} (f : Fin n → α) (i : Nat) (h : i < n) :
    (vecOfFn f)[i] = f ⟨i, h⟩ := by
  simp [vecOfFn]

@[simp] theorem vecOfFn_getElem_fin {α : Type} {n : Nat} (f : Fin n → α) (i : Fin n) :
    (vecOfFn f)[i] = f i := by
  simp [vecOfFn]

/-- Putting each entry back as it was changes nothing. -/
theorem vecOfFn_self {α : Type} {n : Nat} (v : Vector α n) : (vecOfFn fun i => v[i]) = v := by
  ext i h
  simp

@[simp] theorem vector_set_getElem_self {α : Type} {n : Nat} (v : Vector α n) (i : Fin n) (x : α) :
    (v.set i x)[i] = x := by
  simp

theorem vector_set_getElem_of_ne {α : Type} {n : Nat} (v : Vector α n) (i j : Fin n) (x : α) (h : i ≠ j) :
    (v.set i x)[j] = v[j] := by
  have : i.val ≠ j.val := fun e => h (Fin.ext e)
  simp [Vector.getElem_set_ne, this]

/-! ### Named things and their numbers -/

@[simp] theorem Fn.ofIdx_idx (f : Fn) : Fn.ofIdx f.idx = f := by cases f <;> rfl

@[simp] theorem Fn.idx_ofIdx (i : Fin 13) : (Fn.ofIdx i).idx = i := by
  revert i; decide

theorem Fn.idx_ne {f g : Fn} (h : f ≠ g) : f.idx ≠ g.idx := fun e => h (by
  have := congrArg Fn.ofIdx e
  simpa using this)

theorem Fn.mem_all (f : Fn) : f ∈ Fn.all := by cases f <;> decide

@[simp] theorem Role.ofIdx_idx (r : Role) : Role.ofIdx r.idx = r := by cases r <;> rfl

@[simp] theorem Role.idx_ofIdx (i : Fin 15) : (Role.ofIdx i).idx = i := by
  revert i; decide

theorem Event.idx_ne {e d : Event} (h : e ≠ d) : e.idx ≠ d.idx := by
  revert h; cases e <;> cases d <;> decide

/-! ### One record after one update -/

@[simp] theorem State.setFn_fn (s : State) (f : Fn) (r : FnRecord) : (s.setFn f r).fn f = r := by
  simp [State.fn]

theorem State.setFn_fn_of_ne (s : State) {f g : Fn} (r : FnRecord) (h : f ≠ g) :
    (s.setFn f r).fn g = s.fn g :=
  vector_set_getElem_of_ne _ _ _ _ (Fn.idx_ne h)

@[simp] theorem State.setInput_input (s : State) (i : Fin 12) (x : Input) :
    (s.setInput i x).input i = x := by
  simp [State.input]

theorem State.setInput_input_of_ne (s : State) {i j : Fin 12} (x : Input) (h : i ≠ j) :
    (s.setInput i x).input j = s.input j :=
  vector_set_getElem_of_ne _ _ _ _ h

@[simp] theorem State.setChannel_channel (s : State) (c : Fin 16) (x : Channel) :
    (s.setChannel c x).channel c = x := by
  simp [State.channel]

theorem State.setChannel_channel_of_ne (s : State) {c d : Fin 16} (x : Channel) (h : c ≠ d) :
    (s.setChannel c x).channel d = s.channel d :=
  vector_set_getElem_of_ne _ _ _ _ h

@[simp] theorem State.setSender_sender (s : State) (n : Fin 4) (x : Sender) :
    (s.setSender n x).sender n = x := by
  simp [State.sender]

theorem State.setSender_sender_of_ne (s : State) {n m : Fin 4} (x : Sender) (h : n ≠ m) :
    (s.setSender n x).sender m = s.sender m :=
  vector_set_getElem_of_ne _ _ _ _ h

@[simp] theorem State.setGauge_gauge (s : State) (g : Fin 4) (x : Gauge) :
    (s.setGauge g x).gauge g = x := by
  simp [State.gauge]

theorem State.setGauge_gauge_of_ne (s : State) {g k : Fin 4} (x : Gauge) (h : g ≠ k) :
    (s.setGauge g x).gauge k = s.gauge k :=
  vector_set_getElem_of_ne _ _ _ _ h

@[simp] theorem State.raise_event (s : State) (e : Event) (d : Nat) :
    (s.raise e d).event e = ⟨true, d⟩ := by
  simp [State.event]

theorem State.raise_event_of_ne (s : State) {e k : Event} (d : Nat) (h : e ≠ k) :
    (s.raise e d).event k = s.event k :=
  vector_set_getElem_of_ne _ _ _ _ (Event.idx_ne h)

/-- A cause sets its own flag and clears none (R169). -/
theorem State.raise_flag_kept (s : State) (e : Event) (d : Nat) (k : Fin 16) (h : (s.events[k]).flag = true) :
    ((s.raise e d).events[k]).flag = true := by
  by_cases hk : e.idx = k
  · subst hk; simp
  · rw [State.raise_events, vector_set_getElem_of_ne _ _ _ _ hk]; exact h

/-! ### Running and held parts -/

theorem State.whenPowered_on (s : State) (k : State → State) (h : s.powered = true) :
    s.whenPowered k = k s := by
  simp [State.whenPowered, h]

theorem State.whenPowered_off (s : State) (k : State → State) (h : s.powered = false) :
    s.whenPowered k = s := by
  simp [State.whenPowered, h]

end Sys2Proof.Machine
end

