-- ==== Sys2Proof/Laws/React.lean ====
section
/-! SUPPORT. What each part of the blocks' reaction can touch, and the whole reaction: everything that later proofs
need to know of what it leaves alone. -/

namespace Sys2Proof.Machine

variable (s : State)

/-! ### cadenceFollow -/

@[simp] theorem State.cadenceFollow_pending : s.cadenceFollow.pending = s.pending := by
  unfold State.cadenceFollow; repeat' split
  all_goals rfl
@[simp] theorem State.cadenceFollow_powered : s.cadenceFollow.powered = s.powered := by
  unfold State.cadenceFollow; repeat' split
  all_goals rfl
@[simp] theorem State.cadenceFollow_restarting : s.cadenceFollow.restarting = s.restarting := by
  unfold State.cadenceFollow; repeat' split
  all_goals rfl
@[simp] theorem State.cadenceFollow_inputs : s.cadenceFollow.inputs = s.inputs := by
  unfold State.cadenceFollow; repeat' split
  all_goals rfl
@[simp] theorem State.cadenceFollow_functions : s.cadenceFollow.functions = s.functions := by
  unfold State.cadenceFollow; repeat' split
  all_goals rfl
@[simp] theorem State.cadenceFollow_reservation : s.cadenceFollow.reservation = s.reservation := by
  unfold State.cadenceFollow; repeat' split
  all_goals rfl
@[simp] theorem State.cadenceFollow_channels : s.cadenceFollow.channels = s.channels := by
  unfold State.cadenceFollow; repeat' split
  all_goals rfl
@[simp] theorem State.cadenceFollow_senders : s.cadenceFollow.senders = s.senders := by
  unfold State.cadenceFollow; repeat' split
  all_goals rfl
@[simp] theorem State.cadenceFollow_gauges : s.cadenceFollow.gauges = s.gauges := by
  unfold State.cadenceFollow; repeat' split
  all_goals rfl
@[simp] theorem State.cadenceFollow_fan : s.cadenceFollow.fan = s.fan := by
  unfold State.cadenceFollow; repeat' split
  all_goals rfl
@[simp] theorem State.cadenceFollow_supply : s.cadenceFollow.supply = s.supply := by
  unfold State.cadenceFollow; repeat' split
  all_goals rfl
@[simp] theorem State.cadenceFollow_store : s.cadenceFollow.store = s.store := by
  unfold State.cadenceFollow; repeat' split
  all_goals rfl
@[simp] theorem State.cadenceFollow_link : s.cadenceFollow.link = s.link := by
  unfold State.cadenceFollow; repeat' split
  all_goals rfl
@[simp] theorem State.cadenceFollow_events : s.cadenceFollow.events = s.events := by
  unfold State.cadenceFollow; repeat' split
  all_goals rfl
@[simp] theorem State.cadenceFollow_settings : s.cadenceFollow.settings = s.settings := by
  unfold State.cadenceFollow; repeat' split
  all_goals rfl
@[simp] theorem State.cadenceFollow_tables : s.cadenceFollow.tables = s.tables := by
  unfold State.cadenceFollow; repeat' split
  all_goals rfl
@[simp] theorem State.cadenceFollow_clockActs : s.cadenceFollow.clockActs = s.clockActs := by
  unfold State.cadenceFollow; repeat' split
  all_goals rfl

/-! ### flasherFollow -/

@[simp] theorem State.flasherFollow_pending : s.flasherFollow.pending = s.pending := by
  simp [State.flasherFollow]
@[simp] theorem State.flasherFollow_powered : s.flasherFollow.powered = s.powered := by
  simp [State.flasherFollow]
@[simp] theorem State.flasherFollow_restarting : s.flasherFollow.restarting = s.restarting := by
  simp [State.flasherFollow]
@[simp] theorem State.flasherFollow_inputs : s.flasherFollow.inputs = s.inputs := by
  simp [State.flasherFollow]
@[simp] theorem State.flasherFollow_functions : s.flasherFollow.functions = s.functions := by
  simp [State.flasherFollow]
@[simp] theorem State.flasherFollow_reservation : s.flasherFollow.reservation = s.reservation := by
  simp [State.flasherFollow]
@[simp] theorem State.flasherFollow_channels : s.flasherFollow.channels = s.channels := by
  simp [State.flasherFollow]
@[simp] theorem State.flasherFollow_senders : s.flasherFollow.senders = s.senders := by
  simp [State.flasherFollow]
@[simp] theorem State.flasherFollow_gauges : s.flasherFollow.gauges = s.gauges := by
  simp [State.flasherFollow]
@[simp] theorem State.flasherFollow_fan : s.flasherFollow.fan = s.fan := by
  simp [State.flasherFollow]
@[simp] theorem State.flasherFollow_supply : s.flasherFollow.supply = s.supply := by
  simp [State.flasherFollow]
@[simp] theorem State.flasherFollow_store : s.flasherFollow.store = s.store := by
  simp [State.flasherFollow]
@[simp] theorem State.flasherFollow_link : s.flasherFollow.link = s.link := by
  simp [State.flasherFollow]
@[simp] theorem State.flasherFollow_events : s.flasherFollow.events = s.events := by
  simp [State.flasherFollow]
@[simp] theorem State.flasherFollow_settings : s.flasherFollow.settings = s.settings := by
  simp [State.flasherFollow]
@[simp] theorem State.flasherFollow_tables : s.flasherFollow.tables = s.tables := by
  simp [State.flasherFollow]
@[simp] theorem State.flasherFollow_clockActs : s.flasherFollow.clockActs = s.clockActs := by
  simp [State.flasherFollow]

/-! ### chargeFollow -/

@[simp] theorem State.chargeFollow_pending : s.chargeFollow.pending = s.pending := by
  unfold State.chargeFollow; dsimp only; split <;> rfl
@[simp] theorem State.chargeFollow_powered : s.chargeFollow.powered = s.powered := by
  unfold State.chargeFollow; dsimp only; split <;> rfl
@[simp] theorem State.chargeFollow_restarting : s.chargeFollow.restarting = s.restarting := by
  unfold State.chargeFollow; dsimp only; split <;> rfl
@[simp] theorem State.chargeFollow_inputs : s.chargeFollow.inputs = s.inputs := by
  unfold State.chargeFollow; dsimp only; split <;> rfl
@[simp] theorem State.chargeFollow_functions : s.chargeFollow.functions = s.functions := by
  unfold State.chargeFollow; dsimp only; split <;> rfl
@[simp] theorem State.chargeFollow_reservation : s.chargeFollow.reservation = s.reservation := by
  unfold State.chargeFollow; dsimp only; split <;> rfl
@[simp] theorem State.chargeFollow_flasher : s.chargeFollow.flasher = s.flasher := by
  unfold State.chargeFollow; dsimp only; split <;> rfl
@[simp] theorem State.chargeFollow_channels : s.chargeFollow.channels = s.channels := by
  unfold State.chargeFollow; dsimp only; split <;> rfl
@[simp] theorem State.chargeFollow_senders : s.chargeFollow.senders = s.senders := by
  unfold State.chargeFollow; dsimp only; split <;> rfl
@[simp] theorem State.chargeFollow_gauges : s.chargeFollow.gauges = s.gauges := by
  unfold State.chargeFollow; dsimp only; split <;> rfl
@[simp] theorem State.chargeFollow_fan : s.chargeFollow.fan = s.fan := by
  unfold State.chargeFollow; dsimp only; split <;> rfl
@[simp] theorem State.chargeFollow_store : s.chargeFollow.store = s.store := by
  unfold State.chargeFollow; dsimp only; split <;> rfl
@[simp] theorem State.chargeFollow_link : s.chargeFollow.link = s.link := by
  unfold State.chargeFollow; dsimp only; split <;> rfl
@[simp] theorem State.chargeFollow_settings : s.chargeFollow.settings = s.settings := by
  unfold State.chargeFollow; dsimp only; split <;> rfl
@[simp] theorem State.chargeFollow_tables : s.chargeFollow.tables = s.tables := by
  unfold State.chargeFollow; dsimp only; split <;> rfl
@[simp] theorem State.chargeFollow_clockActs : s.chargeFollow.clockActs = s.clockActs := by
  unfold State.chargeFollow; dsimp only; split <;> rfl

/-! ### storeFollow -/

@[simp] theorem State.storeFollow_pending : s.storeFollow.pending = s.pending := by
  unfold State.storeFollow; repeat' split
  all_goals rfl
@[simp] theorem State.storeFollow_powered : s.storeFollow.powered = s.powered := by
  unfold State.storeFollow; repeat' split
  all_goals rfl
@[simp] theorem State.storeFollow_restarting : s.storeFollow.restarting = s.restarting := by
  unfold State.storeFollow; repeat' split
  all_goals rfl
@[simp] theorem State.storeFollow_inputs : s.storeFollow.inputs = s.inputs := by
  unfold State.storeFollow; repeat' split
  all_goals rfl
@[simp] theorem State.storeFollow_functions : s.storeFollow.functions = s.functions := by
  unfold State.storeFollow; repeat' split
  all_goals rfl
@[simp] theorem State.storeFollow_reservation : s.storeFollow.reservation = s.reservation := by
  unfold State.storeFollow; repeat' split
  all_goals rfl
@[simp] theorem State.storeFollow_flasher : s.storeFollow.flasher = s.flasher := by
  unfold State.storeFollow; repeat' split
  all_goals rfl
@[simp] theorem State.storeFollow_channels : s.storeFollow.channels = s.channels := by
  unfold State.storeFollow; repeat' split
  all_goals rfl
@[simp] theorem State.storeFollow_senders : s.storeFollow.senders = s.senders := by
  unfold State.storeFollow; repeat' split
  all_goals rfl
@[simp] theorem State.storeFollow_gauges : s.storeFollow.gauges = s.gauges := by
  unfold State.storeFollow; repeat' split
  all_goals rfl
@[simp] theorem State.storeFollow_fan : s.storeFollow.fan = s.fan := by
  unfold State.storeFollow; repeat' split
  all_goals rfl
@[simp] theorem State.storeFollow_supply : s.storeFollow.supply = s.supply := by
  unfold State.storeFollow; repeat' split
  all_goals rfl
@[simp] theorem State.storeFollow_link : s.storeFollow.link = s.link := by
  unfold State.storeFollow; repeat' split
  all_goals rfl
@[simp] theorem State.storeFollow_settings : s.storeFollow.settings = s.settings := by
  unfold State.storeFollow; repeat' split
  all_goals rfl
@[simp] theorem State.storeFollow_tables : s.storeFollow.tables = s.tables := by
  unfold State.storeFollow; repeat' split
  all_goals rfl
@[simp] theorem State.storeFollow_clockActs : s.storeFollow.clockActs = s.clockActs := by
  unfold State.storeFollow; repeat' split
  all_goals rfl

/-! ### react -/

@[simp] theorem State.react_pending : s.react.pending = s.pending := by
  simp [State.react]
@[simp] theorem State.react_powered : s.react.powered = s.powered := by
  simp [State.react]
@[simp] theorem State.react_restarting : s.react.restarting = s.restarting := by
  simp [State.react]
@[simp] theorem State.react_inputs : s.react.inputs = s.inputs := by
  simp [State.react]
@[simp] theorem State.react_functions : s.react.functions = s.functions := by
  simp [State.react]
@[simp] theorem State.react_reservation : s.react.reservation = s.reservation := by
  simp [State.react]
@[simp] theorem State.react_senders : s.react.senders = s.senders := by
  simp [State.react]
@[simp] theorem State.react_gauges : s.react.gauges = s.gauges := by
  simp [State.react]
@[simp] theorem State.react_link : s.react.link = s.link := by
  simp [State.react]
@[simp] theorem State.react_settings : s.react.settings = s.settings := by
  simp [State.react]
@[simp] theorem State.react_tables : s.react.tables = s.tables := by
  simp [State.react]
@[simp] theorem State.react_clockActs : s.react.clockActs = s.clockActs := by
  simp [State.react]

/-! ### startSettle -/

@[simp] theorem State.startSettle_pending : s.startSettle.pending = s.pending := by
  unfold State.startSettle; split <;> rfl
@[simp] theorem State.startSettle_powered : s.startSettle.powered = s.powered := by
  unfold State.startSettle; split <;> rfl
@[simp] theorem State.startSettle_restarting : s.startSettle.restarting = s.restarting := by
  unfold State.startSettle; split <;> rfl
@[simp] theorem State.startSettle_inputs : s.startSettle.inputs = s.inputs := by
  unfold State.startSettle; split <;> rfl
@[simp] theorem State.startSettle_functions : s.startSettle.functions = s.functions := by
  unfold State.startSettle; split <;> rfl
@[simp] theorem State.startSettle_reservation : s.startSettle.reservation = s.reservation := by
  unfold State.startSettle; split <;> rfl
@[simp] theorem State.startSettle_flasher : s.startSettle.flasher = s.flasher := by
  unfold State.startSettle; split <;> rfl
@[simp] theorem State.startSettle_channels : s.startSettle.channels = s.channels := by
  unfold State.startSettle; split <;> rfl
@[simp] theorem State.startSettle_senders : s.startSettle.senders = s.senders := by
  unfold State.startSettle; split <;> rfl
@[simp] theorem State.startSettle_gauges : s.startSettle.gauges = s.gauges := by
  unfold State.startSettle; split <;> rfl
@[simp] theorem State.startSettle_supply : s.startSettle.supply = s.supply := by
  unfold State.startSettle; split <;> rfl
@[simp] theorem State.startSettle_store : s.startSettle.store = s.store := by
  unfold State.startSettle; split <;> rfl
@[simp] theorem State.startSettle_link : s.startSettle.link = s.link := by
  unfold State.startSettle; split <;> rfl
@[simp] theorem State.startSettle_events : s.startSettle.events = s.events := by
  unfold State.startSettle; split <;> rfl
@[simp] theorem State.startSettle_settings : s.startSettle.settings = s.settings := by
  unfold State.startSettle; split <;> rfl
@[simp] theorem State.startSettle_tables : s.startSettle.tables = s.tables := by
  unfold State.startSettle; split <;> rfl
@[simp] theorem State.startSettle_clockActs : s.startSettle.clockActs = s.clockActs := by
  unfold State.startSettle; split <;> rfl

/-! ### fanToZero -/

@[simp] theorem State.fanToZero_pending : s.fanToZero.pending = s.pending := rfl
@[simp] theorem State.fanToZero_powered : s.fanToZero.powered = s.powered := rfl
@[simp] theorem State.fanToZero_restarting : s.fanToZero.restarting = s.restarting := rfl
@[simp] theorem State.fanToZero_inputs : s.fanToZero.inputs = s.inputs := rfl
@[simp] theorem State.fanToZero_functions : s.fanToZero.functions = s.functions := rfl
@[simp] theorem State.fanToZero_reservation : s.fanToZero.reservation = s.reservation := rfl
@[simp] theorem State.fanToZero_flasher : s.fanToZero.flasher = s.flasher := rfl
@[simp] theorem State.fanToZero_channels : s.fanToZero.channels = s.channels := rfl
@[simp] theorem State.fanToZero_senders : s.fanToZero.senders = s.senders := rfl
@[simp] theorem State.fanToZero_gauges : s.fanToZero.gauges = s.gauges := rfl
@[simp] theorem State.fanToZero_supply : s.fanToZero.supply = s.supply := rfl
@[simp] theorem State.fanToZero_store : s.fanToZero.store = s.store := rfl
@[simp] theorem State.fanToZero_link : s.fanToZero.link = s.link := rfl
@[simp] theorem State.fanToZero_events : s.fanToZero.events = s.events := rfl
@[simp] theorem State.fanToZero_settings : s.fanToZero.settings = s.settings := rfl
@[simp] theorem State.fanToZero_tables : s.fanToZero.tables = s.tables := rfl
@[simp] theorem State.fanToZero_clockActs : s.fanToZero.clockActs = s.clockActs := rfl

/-! ### fanOnIgnition -/

@[simp] theorem State.fanOnIgnition_pending (b : Nat) :
    (s.fanOnIgnition b).pending = s.pending := by
  unfold State.fanOnIgnition; repeat' split
  all_goals simp
@[simp] theorem State.fanOnIgnition_powered (b : Nat) :
    (s.fanOnIgnition b).powered = s.powered := by
  unfold State.fanOnIgnition; repeat' split
  all_goals simp
@[simp] theorem State.fanOnIgnition_restarting (b : Nat) :
    (s.fanOnIgnition b).restarting = s.restarting := by
  unfold State.fanOnIgnition; repeat' split
  all_goals simp
@[simp] theorem State.fanOnIgnition_inputs (b : Nat) :
    (s.fanOnIgnition b).inputs = s.inputs := by
  unfold State.fanOnIgnition; repeat' split
  all_goals simp
@[simp] theorem State.fanOnIgnition_functions (b : Nat) :
    (s.fanOnIgnition b).functions = s.functions := by
  unfold State.fanOnIgnition; repeat' split
  all_goals simp
@[simp] theorem State.fanOnIgnition_reservation (b : Nat) :
    (s.fanOnIgnition b).reservation = s.reservation := by
  unfold State.fanOnIgnition; repeat' split
  all_goals simp
@[simp] theorem State.fanOnIgnition_flasher (b : Nat) :
    (s.fanOnIgnition b).flasher = s.flasher := by
  unfold State.fanOnIgnition; repeat' split
  all_goals simp
@[simp] theorem State.fanOnIgnition_channels (b : Nat) :
    (s.fanOnIgnition b).channels = s.channels := by
  unfold State.fanOnIgnition; repeat' split
  all_goals simp
@[simp] theorem State.fanOnIgnition_senders (b : Nat) :
    (s.fanOnIgnition b).senders = s.senders := by
  unfold State.fanOnIgnition; repeat' split
  all_goals simp
@[simp] theorem State.fanOnIgnition_gauges (b : Nat) :
    (s.fanOnIgnition b).gauges = s.gauges := by
  unfold State.fanOnIgnition; repeat' split
  all_goals simp
@[simp] theorem State.fanOnIgnition_supply (b : Nat) :
    (s.fanOnIgnition b).supply = s.supply := by
  unfold State.fanOnIgnition; repeat' split
  all_goals simp
@[simp] theorem State.fanOnIgnition_store (b : Nat) :
    (s.fanOnIgnition b).store = s.store := by
  unfold State.fanOnIgnition; repeat' split
  all_goals simp
@[simp] theorem State.fanOnIgnition_link (b : Nat) :
    (s.fanOnIgnition b).link = s.link := by
  unfold State.fanOnIgnition; repeat' split
  all_goals simp
@[simp] theorem State.fanOnIgnition_events (b : Nat) :
    (s.fanOnIgnition b).events = s.events := by
  unfold State.fanOnIgnition; repeat' split
  all_goals simp
@[simp] theorem State.fanOnIgnition_settings (b : Nat) :
    (s.fanOnIgnition b).settings = s.settings := by
  unfold State.fanOnIgnition; repeat' split
  all_goals simp
@[simp] theorem State.fanOnIgnition_tables (b : Nat) :
    (s.fanOnIgnition b).tables = s.tables := by
  unfold State.fanOnIgnition; repeat' split
  all_goals simp
@[simp] theorem State.fanOnIgnition_clockActs (b : Nat) :
    (s.fanOnIgnition b).clockActs = s.clockActs := by
  unfold State.fanOnIgnition; repeat' split
  all_goals simp

/-! ### fanOnFunction -/

@[simp] theorem State.fanOnFunction_pending (b : Nat) :
    (s.fanOnFunction b).pending = s.pending := by
  unfold State.fanOnFunction; repeat' split
  all_goals simp
@[simp] theorem State.fanOnFunction_powered (b : Nat) :
    (s.fanOnFunction b).powered = s.powered := by
  unfold State.fanOnFunction; repeat' split
  all_goals simp
@[simp] theorem State.fanOnFunction_restarting (b : Nat) :
    (s.fanOnFunction b).restarting = s.restarting := by
  unfold State.fanOnFunction; repeat' split
  all_goals simp
@[simp] theorem State.fanOnFunction_inputs (b : Nat) :
    (s.fanOnFunction b).inputs = s.inputs := by
  unfold State.fanOnFunction; repeat' split
  all_goals simp
@[simp] theorem State.fanOnFunction_functions (b : Nat) :
    (s.fanOnFunction b).functions = s.functions := by
  unfold State.fanOnFunction; repeat' split
  all_goals simp
@[simp] theorem State.fanOnFunction_reservation (b : Nat) :
    (s.fanOnFunction b).reservation = s.reservation := by
  unfold State.fanOnFunction; repeat' split
  all_goals simp
@[simp] theorem State.fanOnFunction_flasher (b : Nat) :
    (s.fanOnFunction b).flasher = s.flasher := by
  unfold State.fanOnFunction; repeat' split
  all_goals simp
@[simp] theorem State.fanOnFunction_channels (b : Nat) :
    (s.fanOnFunction b).channels = s.channels := by
  unfold State.fanOnFunction; repeat' split
  all_goals simp
@[simp] theorem State.fanOnFunction_senders (b : Nat) :
    (s.fanOnFunction b).senders = s.senders := by
  unfold State.fanOnFunction; repeat' split
  all_goals simp
@[simp] theorem State.fanOnFunction_gauges (b : Nat) :
    (s.fanOnFunction b).gauges = s.gauges := by
  unfold State.fanOnFunction; repeat' split
  all_goals simp
@[simp] theorem State.fanOnFunction_supply (b : Nat) :
    (s.fanOnFunction b).supply = s.supply := by
  unfold State.fanOnFunction; repeat' split
  all_goals simp
@[simp] theorem State.fanOnFunction_store (b : Nat) :
    (s.fanOnFunction b).store = s.store := by
  unfold State.fanOnFunction; repeat' split
  all_goals simp
@[simp] theorem State.fanOnFunction_link (b : Nat) :
    (s.fanOnFunction b).link = s.link := by
  unfold State.fanOnFunction; repeat' split
  all_goals simp
@[simp] theorem State.fanOnFunction_events (b : Nat) :
    (s.fanOnFunction b).events = s.events := by
  unfold State.fanOnFunction; repeat' split
  all_goals simp
@[simp] theorem State.fanOnFunction_settings (b : Nat) :
    (s.fanOnFunction b).settings = s.settings := by
  unfold State.fanOnFunction; repeat' split
  all_goals simp
@[simp] theorem State.fanOnFunction_tables (b : Nat) :
    (s.fanOnFunction b).tables = s.tables := by
  unfold State.fanOnFunction; repeat' split
  all_goals simp
@[simp] theorem State.fanOnFunction_clockActs (b : Nat) :
    (s.fanOnFunction b).clockActs = s.clockActs := by
  unfold State.fanOnFunction; repeat' split
  all_goals simp

/-! ### fanOnDemand -/

@[simp] theorem State.fanOnDemand_pending (b : State) :
    (s.fanOnDemand b).pending = s.pending := by
  simp [State.fanOnDemand]
@[simp] theorem State.fanOnDemand_powered (b : State) :
    (s.fanOnDemand b).powered = s.powered := by
  simp [State.fanOnDemand]
@[simp] theorem State.fanOnDemand_restarting (b : State) :
    (s.fanOnDemand b).restarting = s.restarting := by
  simp [State.fanOnDemand]
@[simp] theorem State.fanOnDemand_inputs (b : State) :
    (s.fanOnDemand b).inputs = s.inputs := by
  simp [State.fanOnDemand]
@[simp] theorem State.fanOnDemand_functions (b : State) :
    (s.fanOnDemand b).functions = s.functions := by
  simp [State.fanOnDemand]
@[simp] theorem State.fanOnDemand_reservation (b : State) :
    (s.fanOnDemand b).reservation = s.reservation := by
  simp [State.fanOnDemand]
@[simp] theorem State.fanOnDemand_flasher (b : State) :
    (s.fanOnDemand b).flasher = s.flasher := by
  simp [State.fanOnDemand]
@[simp] theorem State.fanOnDemand_channels (b : State) :
    (s.fanOnDemand b).channels = s.channels := by
  simp [State.fanOnDemand]
@[simp] theorem State.fanOnDemand_senders (b : State) :
    (s.fanOnDemand b).senders = s.senders := by
  simp [State.fanOnDemand]
@[simp] theorem State.fanOnDemand_gauges (b : State) :
    (s.fanOnDemand b).gauges = s.gauges := by
  simp [State.fanOnDemand]
@[simp] theorem State.fanOnDemand_supply (b : State) :
    (s.fanOnDemand b).supply = s.supply := by
  simp [State.fanOnDemand]
@[simp] theorem State.fanOnDemand_store (b : State) :
    (s.fanOnDemand b).store = s.store := by
  simp [State.fanOnDemand]
@[simp] theorem State.fanOnDemand_link (b : State) :
    (s.fanOnDemand b).link = s.link := by
  simp [State.fanOnDemand]
@[simp] theorem State.fanOnDemand_events (b : State) :
    (s.fanOnDemand b).events = s.events := by
  simp [State.fanOnDemand]
@[simp] theorem State.fanOnDemand_settings (b : State) :
    (s.fanOnDemand b).settings = s.settings := by
  simp [State.fanOnDemand]
@[simp] theorem State.fanOnDemand_tables (b : State) :
    (s.fanOnDemand b).tables = s.tables := by
  simp [State.fanOnDemand]
@[simp] theorem State.fanOnDemand_clockActs (b : State) :
    (s.fanOnDemand b).clockActs = s.clockActs := by
  simp [State.fanOnDemand]

/-! ### reactFrom -/

@[simp] theorem State.reactFrom_pending (b : State) :
    (s.reactFrom b).pending = s.pending := by
  simp [State.reactFrom]
@[simp] theorem State.reactFrom_powered (b : State) :
    (s.reactFrom b).powered = s.powered := by
  simp [State.reactFrom]
@[simp] theorem State.reactFrom_restarting (b : State) :
    (s.reactFrom b).restarting = s.restarting := by
  simp [State.reactFrom]
@[simp] theorem State.reactFrom_inputs (b : State) :
    (s.reactFrom b).inputs = s.inputs := by
  simp [State.reactFrom]
@[simp] theorem State.reactFrom_functions (b : State) :
    (s.reactFrom b).functions = s.functions := by
  simp [State.reactFrom]
@[simp] theorem State.reactFrom_reservation (b : State) :
    (s.reactFrom b).reservation = s.reservation := by
  simp [State.reactFrom]
@[simp] theorem State.reactFrom_senders (b : State) :
    (s.reactFrom b).senders = s.senders := by
  simp [State.reactFrom]
@[simp] theorem State.reactFrom_gauges (b : State) :
    (s.reactFrom b).gauges = s.gauges := by
  simp [State.reactFrom]
@[simp] theorem State.reactFrom_link (b : State) :
    (s.reactFrom b).link = s.link := by
  simp [State.reactFrom]
@[simp] theorem State.reactFrom_settings (b : State) :
    (s.reactFrom b).settings = s.settings := by
  simp [State.reactFrom]
@[simp] theorem State.reactFrom_tables (b : State) :
    (s.reactFrom b).tables = s.tables := by
  simp [State.reactFrom]
@[simp] theorem State.reactFrom_clockActs (b : State) :
    (s.reactFrom b).clockActs = s.clockActs := by
  simp [State.reactFrom]

/-! ### raiseIfChanged -/

@[simp] theorem State.raiseIfChanged_pending (b : State) (f : Fn) :
    (s.raiseIfChanged b f).pending = s.pending := by
  unfold State.raiseIfChanged; split <;> simp
@[simp] theorem State.raiseIfChanged_powered (b : State) (f : Fn) :
    (s.raiseIfChanged b f).powered = s.powered := by
  unfold State.raiseIfChanged; split <;> simp
@[simp] theorem State.raiseIfChanged_restarting (b : State) (f : Fn) :
    (s.raiseIfChanged b f).restarting = s.restarting := by
  unfold State.raiseIfChanged; split <;> simp
@[simp] theorem State.raiseIfChanged_inputs (b : State) (f : Fn) :
    (s.raiseIfChanged b f).inputs = s.inputs := by
  unfold State.raiseIfChanged; split <;> simp
@[simp] theorem State.raiseIfChanged_functions (b : State) (f : Fn) :
    (s.raiseIfChanged b f).functions = s.functions := by
  unfold State.raiseIfChanged; split <;> simp
@[simp] theorem State.raiseIfChanged_reservation (b : State) (f : Fn) :
    (s.raiseIfChanged b f).reservation = s.reservation := by
  unfold State.raiseIfChanged; split <;> simp
@[simp] theorem State.raiseIfChanged_flasher (b : State) (f : Fn) :
    (s.raiseIfChanged b f).flasher = s.flasher := by
  unfold State.raiseIfChanged; split <;> simp
@[simp] theorem State.raiseIfChanged_channels (b : State) (f : Fn) :
    (s.raiseIfChanged b f).channels = s.channels := by
  unfold State.raiseIfChanged; split <;> simp
@[simp] theorem State.raiseIfChanged_senders (b : State) (f : Fn) :
    (s.raiseIfChanged b f).senders = s.senders := by
  unfold State.raiseIfChanged; split <;> simp
@[simp] theorem State.raiseIfChanged_gauges (b : State) (f : Fn) :
    (s.raiseIfChanged b f).gauges = s.gauges := by
  unfold State.raiseIfChanged; split <;> simp
@[simp] theorem State.raiseIfChanged_fan (b : State) (f : Fn) :
    (s.raiseIfChanged b f).fan = s.fan := by
  unfold State.raiseIfChanged; split <;> simp
@[simp] theorem State.raiseIfChanged_supply (b : State) (f : Fn) :
    (s.raiseIfChanged b f).supply = s.supply := by
  unfold State.raiseIfChanged; split <;> simp
@[simp] theorem State.raiseIfChanged_store (b : State) (f : Fn) :
    (s.raiseIfChanged b f).store = s.store := by
  unfold State.raiseIfChanged; split <;> simp
@[simp] theorem State.raiseIfChanged_link (b : State) (f : Fn) :
    (s.raiseIfChanged b f).link = s.link := by
  unfold State.raiseIfChanged; split <;> simp
@[simp] theorem State.raiseIfChanged_settings (b : State) (f : Fn) :
    (s.raiseIfChanged b f).settings = s.settings := by
  unfold State.raiseIfChanged; split <;> simp
@[simp] theorem State.raiseIfChanged_tables (b : State) (f : Fn) :
    (s.raiseIfChanged b f).tables = s.tables := by
  unfold State.raiseIfChanged; split <;> simp
@[simp] theorem State.raiseIfChanged_clockActs (b : State) (f : Fn) :
    (s.raiseIfChanged b f).clockActs = s.clockActs := by
  unfold State.raiseIfChanged; split <;> simp

/-! ### fanFault -/

@[simp] theorem State.fanFault_pending (d : Nat) :
    (s.fanFault d).pending = s.pending := by
  unfold State.fanFault; dsimp only; split <;> simp
@[simp] theorem State.fanFault_powered (d : Nat) :
    (s.fanFault d).powered = s.powered := by
  unfold State.fanFault; dsimp only; split <;> simp
@[simp] theorem State.fanFault_restarting (d : Nat) :
    (s.fanFault d).restarting = s.restarting := by
  unfold State.fanFault; dsimp only; split <;> simp
@[simp] theorem State.fanFault_inputs (d : Nat) :
    (s.fanFault d).inputs = s.inputs := by
  unfold State.fanFault; dsimp only; split <;> simp
@[simp] theorem State.fanFault_functions (d : Nat) :
    (s.fanFault d).functions = s.functions := by
  unfold State.fanFault; dsimp only; split <;> simp
@[simp] theorem State.fanFault_reservation (d : Nat) :
    (s.fanFault d).reservation = s.reservation := by
  unfold State.fanFault; dsimp only; split <;> simp
@[simp] theorem State.fanFault_flasher (d : Nat) :
    (s.fanFault d).flasher = s.flasher := by
  unfold State.fanFault; dsimp only; split <;> simp
@[simp] theorem State.fanFault_channels (d : Nat) :
    (s.fanFault d).channels = s.channels := by
  unfold State.fanFault; dsimp only; split <;> simp
@[simp] theorem State.fanFault_senders (d : Nat) :
    (s.fanFault d).senders = s.senders := by
  unfold State.fanFault; dsimp only; split <;> simp
@[simp] theorem State.fanFault_gauges (d : Nat) :
    (s.fanFault d).gauges = s.gauges := by
  unfold State.fanFault; dsimp only; split <;> simp
@[simp] theorem State.fanFault_supply (d : Nat) :
    (s.fanFault d).supply = s.supply := by
  unfold State.fanFault; dsimp only; split <;> simp
@[simp] theorem State.fanFault_store (d : Nat) :
    (s.fanFault d).store = s.store := by
  unfold State.fanFault; dsimp only; split <;> simp
@[simp] theorem State.fanFault_link (d : Nat) :
    (s.fanFault d).link = s.link := by
  unfold State.fanFault; dsimp only; split <;> simp
@[simp] theorem State.fanFault_settings (d : Nat) :
    (s.fanFault d).settings = s.settings := by
  unfold State.fanFault; dsimp only; split <;> simp
@[simp] theorem State.fanFault_tables (d : Nat) :
    (s.fanFault d).tables = s.tables := by
  unfold State.fanFault; dsimp only; split <;> simp
@[simp] theorem State.fanFault_clockActs (d : Nat) :
    (s.fanFault d).clockActs = s.clockActs := by
  unfold State.fanFault; dsimp only; split <;> simp

/-! ### trip -/

@[simp] theorem State.trip_pending (c : Fin 16) :
    (s.trip c).pending = s.pending := by
  unfold State.trip; dsimp only; split <;> simp
@[simp] theorem State.trip_powered (c : Fin 16) :
    (s.trip c).powered = s.powered := by
  unfold State.trip; dsimp only; split <;> simp
@[simp] theorem State.trip_restarting (c : Fin 16) :
    (s.trip c).restarting = s.restarting := by
  unfold State.trip; dsimp only; split <;> simp
@[simp] theorem State.trip_inputs (c : Fin 16) :
    (s.trip c).inputs = s.inputs := by
  unfold State.trip; dsimp only; split <;> simp
@[simp] theorem State.trip_functions (c : Fin 16) :
    (s.trip c).functions = s.functions := by
  unfold State.trip; dsimp only; split <;> simp
@[simp] theorem State.trip_reservation (c : Fin 16) :
    (s.trip c).reservation = s.reservation := by
  unfold State.trip; dsimp only; split <;> simp
@[simp] theorem State.trip_flasher (c : Fin 16) :
    (s.trip c).flasher = s.flasher := by
  unfold State.trip; dsimp only; split <;> simp
@[simp] theorem State.trip_senders (c : Fin 16) :
    (s.trip c).senders = s.senders := by
  unfold State.trip; dsimp only; split <;> simp
@[simp] theorem State.trip_gauges (c : Fin 16) :
    (s.trip c).gauges = s.gauges := by
  unfold State.trip; dsimp only; split <;> simp
@[simp] theorem State.trip_fan (c : Fin 16) :
    (s.trip c).fan = s.fan := by
  unfold State.trip; dsimp only; split <;> simp
@[simp] theorem State.trip_supply (c : Fin 16) :
    (s.trip c).supply = s.supply := by
  unfold State.trip; dsimp only; split <;> simp
@[simp] theorem State.trip_store (c : Fin 16) :
    (s.trip c).store = s.store := by
  unfold State.trip; dsimp only; split <;> simp
@[simp] theorem State.trip_link (c : Fin 16) :
    (s.trip c).link = s.link := by
  unfold State.trip; dsimp only; split <;> simp
@[simp] theorem State.trip_settings (c : Fin 16) :
    (s.trip c).settings = s.settings := by
  unfold State.trip; dsimp only; split <;> simp
@[simp] theorem State.trip_tables (c : Fin 16) :
    (s.trip c).tables = s.tables := by
  unfold State.trip; dsimp only; split <;> simp
@[simp] theorem State.trip_clockActs (c : Fin 16) :
    (s.trip c).clockActs = s.clockActs := by
  unfold State.trip; dsimp only; split <;> simp

/-! ### takeTransition -/

@[simp] theorem State.takeTransition_pending (bat : Nat) :
    (s.takeTransition bat).pending = s.pending := by
  unfold State.takeTransition; dsimp only; repeat' split
  all_goals simp
@[simp] theorem State.takeTransition_powered (bat : Nat) :
    (s.takeTransition bat).powered = s.powered := by
  unfold State.takeTransition; dsimp only; repeat' split
  all_goals simp
@[simp] theorem State.takeTransition_restarting (bat : Nat) :
    (s.takeTransition bat).restarting = s.restarting := by
  unfold State.takeTransition; dsimp only; repeat' split
  all_goals simp
@[simp] theorem State.takeTransition_inputs (bat : Nat) :
    (s.takeTransition bat).inputs = s.inputs := by
  unfold State.takeTransition; dsimp only; repeat' split
  all_goals simp
@[simp] theorem State.takeTransition_functions (bat : Nat) :
    (s.takeTransition bat).functions = s.functions := by
  unfold State.takeTransition; dsimp only; repeat' split
  all_goals simp
@[simp] theorem State.takeTransition_reservation (bat : Nat) :
    (s.takeTransition bat).reservation = s.reservation := by
  unfold State.takeTransition; dsimp only; repeat' split
  all_goals simp
@[simp] theorem State.takeTransition_flasher (bat : Nat) :
    (s.takeTransition bat).flasher = s.flasher := by
  unfold State.takeTransition; dsimp only; repeat' split
  all_goals simp
@[simp] theorem State.takeTransition_senders (bat : Nat) :
    (s.takeTransition bat).senders = s.senders := by
  unfold State.takeTransition; dsimp only; repeat' split
  all_goals simp
@[simp] theorem State.takeTransition_gauges (bat : Nat) :
    (s.takeTransition bat).gauges = s.gauges := by
  unfold State.takeTransition; dsimp only; repeat' split
  all_goals simp
@[simp] theorem State.takeTransition_store (bat : Nat) :
    (s.takeTransition bat).store = s.store := by
  unfold State.takeTransition; dsimp only; repeat' split
  all_goals simp
@[simp] theorem State.takeTransition_link (bat : Nat) :
    (s.takeTransition bat).link = s.link := by
  unfold State.takeTransition; dsimp only; repeat' split
  all_goals simp
@[simp] theorem State.takeTransition_settings (bat : Nat) :
    (s.takeTransition bat).settings = s.settings := by
  unfold State.takeTransition; dsimp only; repeat' split
  all_goals simp
@[simp] theorem State.takeTransition_tables (bat : Nat) :
    (s.takeTransition bat).tables = s.tables := by
  unfold State.takeTransition; dsimp only; repeat' split
  all_goals simp
@[simp] theorem State.takeTransition_clockActs (bat : Nat) :
    (s.takeTransition bat).clockActs = s.clockActs := by
  unfold State.takeTransition; dsimp only; repeat' split
  all_goals simp

/-! ### judgeSlot -/

@[simp] theorem State.judgeSlot_pending (bat dyn : Nat) :
    (s.judgeSlot bat dyn).pending = s.pending := by
  simp [State.judgeSlot]
@[simp] theorem State.judgeSlot_powered (bat dyn : Nat) :
    (s.judgeSlot bat dyn).powered = s.powered := by
  simp [State.judgeSlot]
@[simp] theorem State.judgeSlot_restarting (bat dyn : Nat) :
    (s.judgeSlot bat dyn).restarting = s.restarting := by
  simp [State.judgeSlot]
@[simp] theorem State.judgeSlot_inputs (bat dyn : Nat) :
    (s.judgeSlot bat dyn).inputs = s.inputs := by
  simp [State.judgeSlot]
@[simp] theorem State.judgeSlot_functions (bat dyn : Nat) :
    (s.judgeSlot bat dyn).functions = s.functions := by
  simp [State.judgeSlot]
@[simp] theorem State.judgeSlot_reservation (bat dyn : Nat) :
    (s.judgeSlot bat dyn).reservation = s.reservation := by
  simp [State.judgeSlot]
@[simp] theorem State.judgeSlot_flasher (bat dyn : Nat) :
    (s.judgeSlot bat dyn).flasher = s.flasher := by
  simp [State.judgeSlot]
@[simp] theorem State.judgeSlot_senders (bat dyn : Nat) :
    (s.judgeSlot bat dyn).senders = s.senders := by
  simp [State.judgeSlot]
@[simp] theorem State.judgeSlot_gauges (bat dyn : Nat) :
    (s.judgeSlot bat dyn).gauges = s.gauges := by
  simp [State.judgeSlot]
@[simp] theorem State.judgeSlot_store (bat dyn : Nat) :
    (s.judgeSlot bat dyn).store = s.store := by
  simp [State.judgeSlot]
@[simp] theorem State.judgeSlot_link (bat dyn : Nat) :
    (s.judgeSlot bat dyn).link = s.link := by
  simp [State.judgeSlot]
@[simp] theorem State.judgeSlot_settings (bat dyn : Nat) :
    (s.judgeSlot bat dyn).settings = s.settings := by
  simp [State.judgeSlot]
@[simp] theorem State.judgeSlot_tables (bat dyn : Nat) :
    (s.judgeSlot bat dyn).tables = s.tables := by
  simp [State.judgeSlot]
@[simp] theorem State.judgeSlot_clockActs (bat dyn : Nat) :
    (s.judgeSlot bat dyn).clockActs = s.clockActs := by
  simp [State.judgeSlot]

/-! ### startProgramming -/

@[simp] theorem State.startProgramming_pending (i : Image) :
    (s.startProgramming i).pending = s.pending := by
  simp [State.startProgramming]
@[simp] theorem State.startProgramming_powered (i : Image) :
    (s.startProgramming i).powered = s.powered := by
  simp [State.startProgramming]
@[simp] theorem State.startProgramming_restarting (i : Image) :
    (s.startProgramming i).restarting = s.restarting := by
  simp [State.startProgramming]
@[simp] theorem State.startProgramming_inputs (i : Image) :
    (s.startProgramming i).inputs = s.inputs := by
  simp [State.startProgramming]
@[simp] theorem State.startProgramming_functions (i : Image) :
    (s.startProgramming i).functions = s.functions := by
  simp [State.startProgramming]
@[simp] theorem State.startProgramming_reservation (i : Image) :
    (s.startProgramming i).reservation = s.reservation := by
  simp [State.startProgramming]
@[simp] theorem State.startProgramming_flasher (i : Image) :
    (s.startProgramming i).flasher = s.flasher := by
  simp [State.startProgramming]
@[simp] theorem State.startProgramming_channels (i : Image) :
    (s.startProgramming i).channels = s.channels := by
  simp [State.startProgramming]
@[simp] theorem State.startProgramming_senders (i : Image) :
    (s.startProgramming i).senders = s.senders := by
  simp [State.startProgramming]
@[simp] theorem State.startProgramming_gauges (i : Image) :
    (s.startProgramming i).gauges = s.gauges := by
  simp [State.startProgramming]
@[simp] theorem State.startProgramming_fan (i : Image) :
    (s.startProgramming i).fan = s.fan := by
  simp [State.startProgramming]
@[simp] theorem State.startProgramming_supply (i : Image) :
    (s.startProgramming i).supply = s.supply := by
  simp [State.startProgramming]
@[simp] theorem State.startProgramming_link (i : Image) :
    (s.startProgramming i).link = s.link := by
  simp [State.startProgramming]
@[simp] theorem State.startProgramming_settings (i : Image) :
    (s.startProgramming i).settings = s.settings := by
  simp [State.startProgramming]
@[simp] theorem State.startProgramming_tables (i : Image) :
    (s.startProgramming i).tables = s.tables := by
  simp [State.startProgramming]
@[simp] theorem State.startProgramming_clockActs (i : Image) :
    (s.startProgramming i).clockActs = s.clockActs := by
  simp [State.startProgramming]

/-! ### writeFn -/

@[simp] theorem State.writeFn_pending (f : Fn) (r : FnRecord) :
    (s.writeFn f r).pending = s.pending := by
  simp [State.writeFn]
@[simp] theorem State.writeFn_powered (f : Fn) (r : FnRecord) :
    (s.writeFn f r).powered = s.powered := by
  simp [State.writeFn]
@[simp] theorem State.writeFn_restarting (f : Fn) (r : FnRecord) :
    (s.writeFn f r).restarting = s.restarting := by
  simp [State.writeFn]
@[simp] theorem State.writeFn_inputs (f : Fn) (r : FnRecord) :
    (s.writeFn f r).inputs = s.inputs := by
  simp [State.writeFn]
@[simp] theorem State.writeFn_senders (f : Fn) (r : FnRecord) :
    (s.writeFn f r).senders = s.senders := by
  simp [State.writeFn]
@[simp] theorem State.writeFn_gauges (f : Fn) (r : FnRecord) :
    (s.writeFn f r).gauges = s.gauges := by
  simp [State.writeFn]
@[simp] theorem State.writeFn_link (f : Fn) (r : FnRecord) :
    (s.writeFn f r).link = s.link := by
  simp [State.writeFn]
@[simp] theorem State.writeFn_settings (f : Fn) (r : FnRecord) :
    (s.writeFn f r).settings = s.settings := by
  simp [State.writeFn]
@[simp] theorem State.writeFn_tables (f : Fn) (r : FnRecord) :
    (s.writeFn f r).tables = s.tables := by
  simp [State.writeFn]
@[simp] theorem State.writeFn_clockActs (f : Fn) (r : FnRecord) :
    (s.writeFn f r).clockActs = s.clockActs := by
  simp [State.writeFn]

/-! ### switchTo -/

@[simp] theorem State.switchTo_pending (f : Fn) (v : Nat) :
    (s.switchTo f v).pending = s.pending := by
  unfold State.switchTo; repeat' split
  all_goals simp
@[simp] theorem State.switchTo_powered (f : Fn) (v : Nat) :
    (s.switchTo f v).powered = s.powered := by
  unfold State.switchTo; repeat' split
  all_goals simp
@[simp] theorem State.switchTo_restarting (f : Fn) (v : Nat) :
    (s.switchTo f v).restarting = s.restarting := by
  unfold State.switchTo; repeat' split
  all_goals simp
@[simp] theorem State.switchTo_inputs (f : Fn) (v : Nat) :
    (s.switchTo f v).inputs = s.inputs := by
  unfold State.switchTo; repeat' split
  all_goals simp
@[simp] theorem State.switchTo_senders (f : Fn) (v : Nat) :
    (s.switchTo f v).senders = s.senders := by
  unfold State.switchTo; repeat' split
  all_goals simp
@[simp] theorem State.switchTo_gauges (f : Fn) (v : Nat) :
    (s.switchTo f v).gauges = s.gauges := by
  unfold State.switchTo; repeat' split
  all_goals simp
@[simp] theorem State.switchTo_link (f : Fn) (v : Nat) :
    (s.switchTo f v).link = s.link := by
  unfold State.switchTo; repeat' split
  all_goals simp
@[simp] theorem State.switchTo_settings (f : Fn) (v : Nat) :
    (s.switchTo f v).settings = s.settings := by
  unfold State.switchTo; repeat' split
  all_goals simp
@[simp] theorem State.switchTo_tables (f : Fn) (v : Nat) :
    (s.switchTo f v).tables = s.tables := by
  unfold State.switchTo; repeat' split
  all_goals simp
@[simp] theorem State.switchTo_clockActs (f : Fn) (v : Nat) :
    (s.switchTo f v).clockActs = s.clockActs := by
  unfold State.switchTo; repeat' split
  all_goals simp

/-! ### switchByEdge -/

@[simp] theorem State.switchByEdge_pending (f : Fn) (v : Nat) :
    (s.switchByEdge f v).pending = s.pending := by
  simp [State.switchByEdge]
@[simp] theorem State.switchByEdge_powered (f : Fn) (v : Nat) :
    (s.switchByEdge f v).powered = s.powered := by
  simp [State.switchByEdge]
@[simp] theorem State.switchByEdge_restarting (f : Fn) (v : Nat) :
    (s.switchByEdge f v).restarting = s.restarting := by
  simp [State.switchByEdge]
@[simp] theorem State.switchByEdge_inputs (f : Fn) (v : Nat) :
    (s.switchByEdge f v).inputs = s.inputs := by
  simp [State.switchByEdge]
@[simp] theorem State.switchByEdge_senders (f : Fn) (v : Nat) :
    (s.switchByEdge f v).senders = s.senders := by
  simp [State.switchByEdge]
@[simp] theorem State.switchByEdge_gauges (f : Fn) (v : Nat) :
    (s.switchByEdge f v).gauges = s.gauges := by
  simp [State.switchByEdge]
@[simp] theorem State.switchByEdge_link (f : Fn) (v : Nat) :
    (s.switchByEdge f v).link = s.link := by
  simp [State.switchByEdge]
@[simp] theorem State.switchByEdge_settings (f : Fn) (v : Nat) :
    (s.switchByEdge f v).settings = s.settings := by
  simp [State.switchByEdge]
@[simp] theorem State.switchByEdge_tables (f : Fn) (v : Nat) :
    (s.switchByEdge f v).tables = s.tables := by
  simp [State.switchByEdge]
@[simp] theorem State.switchByEdge_clockActs (f : Fn) (v : Nat) :
    (s.switchByEdge f v).clockActs = s.clockActs := by
  simp [State.switchByEdge]

/-! ### The reaction as a whole -/

/-- The charge condition's part of the reaction changes the charge condition alone in the supply record. -/
theorem State.chargeFollow_supply :
    s.chargeFollow.supply = { s.supply with charge := s.chargeCondition } := by
  unfold State.chargeFollow; dsimp only; split <;> rfl

theorem State.react_supply :
    s.react.supply = { s.supply with charge := s.flasherFollow.chargeCondition } := by
  simp [State.react, State.chargeFollow_supply]

/-- The store's part of the reaction touches neither a page nor the staging buffer. -/
@[simp] theorem State.storeFollow_pages :
    s.storeFollow.store.tablePages = s.store.tablePages
    ∧ s.storeFollow.store.settingsPage = s.store.settingsPage
    ∧ s.storeFollow.store.staging = s.store.staging := by
  unfold State.storeFollow; repeat' split
  all_goals exact ⟨rfl, rfl, rfl⟩

theorem State.react_store : s.react.store = s.flasherFollow.chargeFollow.storeFollow.store := by
  simp [State.react]

/-! ### Events -/

/-- The reaction sets CHARGE_WARN and STORE_FAIL at most; every other event is as it was. -/
theorem State.react_event (e : Event) (hc : e ≠ .chargeWarn) (hf : e ≠ .storeFail) :
    s.react.event e = s.event e := by
  have h1 : ∀ u : State, u.chargeFollow.event e = u.event e := by
    intro u
    unfold State.chargeFollow
    dsimp only
    split
    · exact State.raise_event_of_ne _ _ (Ne.symm hc)
    · rfl
  have h2 : ∀ u : State, u.storeFollow.event e = u.event e := by
    intro u
    unfold State.storeFollow State.failProgramming
    repeat' split
    · rfl
    · exact State.raise_event_of_ne _ _ (Ne.symm hf)
    · rfl
  have h0 : s.react.event e = s.flasherFollow.chargeFollow.storeFollow.event e := by
    simp [State.event, State.react]
  rw [h0, h2, h1]
  simp [State.event]

theorem State.reactFrom_event (before : State) (e : Event) (hc : e ≠ .chargeWarn) (hf : e ≠ .storeFail) :
    (s.reactFrom before).event e = s.event e := by
  rw [State.reactFrom, State.react_event _ e hc hf]
  simp [State.event]

/-! ### Channels and the fan under the reaction -/

/-- Following a call keeps the count, the flag and the current, and leaves TRIP_WAIT and LOCKED_OFF alone (R52, R58,
R60). -/
theorem Channel.follow_keeps (x : Channel) (profile : Profile) (called : Bool) :
    (x.follow profile called).tripCount = x.tripCount ∧ (x.follow profile called).openFlag = x.openFlag
    ∧ (x.follow profile called).current = x.current
    ∧ (x.state = .tripWait ∨ x.state = .lockedOff → x.follow profile called = x) := by
  unfold Channel.follow Channel.activate Channel.stopIn
  cases hx : x.state <;> cases called <;> simp [ChannelState.conducting]

/-- A channel after the reaction is the channel after following its call. -/
theorem State.react_channel (c : Fin 16) : s.react.channel c =
    (s.channel c).follow (s.channelConfig c).profile
      (s.flasherFollow.chargeFollow.storeFollow.fanFollow.called c) := by
  simp [State.react, State.channelsFollow, State.channel, State.channelConfig]

/-- Every move of the fan keeps its open flag, its current, its target step, its settle timer and its stall count. -/
theorem Fan.follow_keeps (f : Fan) (step target : Nat) :
    (f.follow step target).openFlag = f.openFlag ∧ (f.follow step target).current = f.current
    ∧ (f.follow step target).targetStep = f.targetStep ∧ (f.follow step target).settle = f.settle
    ∧ (f.follow step target).stallCount = f.stallCount := by
  unfold Fan.follow Fan.enterRamp Fan.rampStep Fan.rampStopped Fan.stopIn
  repeat' split
  all_goals exact ⟨rfl, rfl, rfl, rfl, rfl⟩

theorem State.react_fan : s.react.fan =
    (s.fan).follow s.settings.fan.rampStep s.flasherFollow.chargeFollow.storeFollow.fanTarget := by
  simp [State.react, State.fanFollow]

theorem State.fanOnDemand_keeps (before : State) :
    (s.fanOnDemand before).fan.openFlag = s.fan.openFlag
    ∧ (s.fanOnDemand before).fan.current = s.fan.current := by
  unfold State.fanOnDemand State.fanOnFunction State.fanOnIgnition State.fanToZero State.dropStep
    State.startSettle State.endSettle
  repeat' split
  all_goals exact ⟨rfl, rfl⟩

end Sys2Proof.Machine
end

