-- ==== Sys2Proof/Laws/Serve.lean ====
section
/-! SUPPORT. Everything that serving a request can do: once for a part that is attentive, once for a taken request,
once for a refused one. -/

namespace Sys2Proof.Machine

/-- Where a request's frame is valid in a part that is not in LIMP, only the link timer moves (R166). -/
theorem State.validFrame_of_not_limp (s : State) (h : s.link.limp = false) :
    s.validFrame = { s with link := { s.link with timer := 0 } } := by
  simp [State.validFrame, h]

/-- Reply placing leaves the rest of the link alone. -/
theorem State.answer_eq (s : State) (frame : Frame) (take : State → State × Reply)
    (place : Frame → List Outgoing → List Outgoing) :
    s.answer frame take place =
      let r := take { s with link := { s.link with served := some frame } }
      { r.1 with link := { r.1.link with outbox := place (frame.replyWith r.2) r.1.link.outbox } } :=
  rfl

/-- What handing a valid frame on does, once and whole: the link timer and LIMP first; then it is answered at once, or it
waits as pending where a frame is being served or a restart is to come (R162, R165). -/
theorem State.handOn_cases (s : State) (frame : Frame) (take : State → State × Reply) :
    (s.validFrame.link.served = none ∧ s.validFrame.restarting = false
      ∧ s.handOn frame take = s.validFrame.answer frame take appendReply)
    ∨ ((s.validFrame.link.served ≠ none ∨ s.validFrame.restarting = true)
      ∧ s.handOn frame take = s.validFrame.holdPending frame) := by
  unfold State.handOn
  cases hs : s.validFrame.link.served <;> cases hr : s.validFrame.restarting <;> simp [hs, hr]

/-- A frame that waits changes the waiting places alone, and LINK_OVERRUN where it replaces one (R162, log 16). -/
theorem State.holdPending_eq (s : State) (frame : Frame) :
    s.holdPending frame = { s with
      link := { s.link with
        pendingFrame := some frame
        outbox := s.link.outbox.filter (fun o => !(o == .awaited)) ++ [.awaited] }
      events := match s.link.pendingFrame with
        | none => s.events
        | some old => s.events.set Event.linkOverrun.idx ⟨true, old.kind.toNat⟩ } := by
  unfold State.holdPending
  cases s.link.pendingFrame <;> rfl

/-- An attentive part serves a request: its take runs on a state whose link timer is at zero and whose served frame is
the request's, and its reply goes behind those that wait. -/
theorem State.serve_attentive (s : State) (i : Instr) (take : State → State × Reply) (frame : Frame)
    (ha : s.attentive) (hf : frameOf? i = some frame) :
    s.serve i take =
      let r := take { s with link := { s.link with timer := 0, served := some frame } }
      { r.1 with link := { r.1.link with outbox := r.1.link.outbox ++ [.reply (frame.replyWith r.2)] } } := by
  obtain ⟨hp, hr, hl, hs⟩ := ha
  simp [State.serve, State.handOn, State.whenPowered, hp, hr, hs, hf, State.validFrame_of_not_limp _ hl, State.answer,
    appendReply]

/-- A take that answers without changing anything leaves the answered state. -/
theorem State.serve_answered (s : State) (i : Instr) (take : State → State × Reply) (frame : Frame)
    (payload : Reply) (ha : s.attentive) (hf : frameOf? i = some frame)
    (ht : take { s with link := { s.link with timer := 0, served := some frame } } =
      ({ s with link := { s.link with timer := 0, served := some frame } }, payload)) :
    s.serve i take = s.answered frame payload := by
  rw [State.serve_attentive s i take frame ha hf, ht]
  rfl

end Sys2Proof.Machine
end

