-- ==== Sys2Proof/Laws/Demand.lean ====
section
/-! SUPPORT. What several functions changing at once leaves behind (LIMP entry and exit), and what a valid frame does. -/

namespace Sys2Proof.Machine

/-! ### Raising DEMAND_CHANGE for several functions -/

/-- Raising DEMAND_CHANGE for some of a list of functions changes the events alone. -/
theorem raiseEach_eq (p : Fn → Bool) (l : List Fn) (s : State) :
    l.foldl (fun t f => if p f then t else t.raise .demandChange f.idx.val) s
      = { s with events := (l.foldl (fun t f => if p f then t else t.raise .demandChange f.idx.val) s).events } := by
  induction l generalizing s with
  | nil => rfl
  | cons f l ih =>
    simp only [List.foldl_cons]
    rw [ih]
    cases p f <;> rfl

/-- It leaves every event but DEMAND_CHANGE as it was. -/
theorem raiseEach_event (p : Fn → Bool) (e : Event) (h : e ≠ .demandChange) (l : List Fn) (s : State) :
    (l.foldl (fun t f => if p f then t else t.raise .demandChange f.idx.val) s).event e = s.event e := by
  induction l generalizing s with
  | nil => rfl
  | cons f l ih =>
    simp only [List.foldl_cons]
    rw [ih]
    cases p f
    · exact State.raise_event_of_ne _ _ (Ne.symm h)
    · rfl

/-- The raising of R15 as a fold over a test that stays as it is. -/
theorem State.raiseDemandChanges_fold (s before : State) :
    s.raiseDemandChanges before =
      Fn.all.foldl (fun t f => if decide (s.eff f = before.eff f) then t
        else t.raise .demandChange f.idx.val) s := by
  simp [State.raiseDemandChanges]

/-- Raising DEMAND_CHANGE changes the events alone. -/
theorem State.raiseDemandChanges_eq (s before : State) :
    s.raiseDemandChanges before = { s with events := (s.raiseDemandChanges before).events } := by
  rw [State.raiseDemandChanges_fold]
  exact raiseEach_eq _ _ _

@[simp] theorem State.raiseDemandChanges_pending (s before : State) :
    (s.raiseDemandChanges before).pending = s.pending := by
  rw [State.raiseDemandChanges_eq]
@[simp] theorem State.raiseDemandChanges_powered (s before : State) :
    (s.raiseDemandChanges before).powered = s.powered := by
  rw [State.raiseDemandChanges_eq]
@[simp] theorem State.raiseDemandChanges_restarting (s before : State) :
    (s.raiseDemandChanges before).restarting = s.restarting := by
  rw [State.raiseDemandChanges_eq]
@[simp] theorem State.raiseDemandChanges_inputs (s before : State) :
    (s.raiseDemandChanges before).inputs = s.inputs := by
  rw [State.raiseDemandChanges_eq]
@[simp] theorem State.raiseDemandChanges_functions (s before : State) :
    (s.raiseDemandChanges before).functions = s.functions := by
  rw [State.raiseDemandChanges_eq]
@[simp] theorem State.raiseDemandChanges_reservation (s before : State) :
    (s.raiseDemandChanges before).reservation = s.reservation := by
  rw [State.raiseDemandChanges_eq]
@[simp] theorem State.raiseDemandChanges_flasher (s before : State) :
    (s.raiseDemandChanges before).flasher = s.flasher := by
  rw [State.raiseDemandChanges_eq]
@[simp] theorem State.raiseDemandChanges_channels (s before : State) :
    (s.raiseDemandChanges before).channels = s.channels := by
  rw [State.raiseDemandChanges_eq]
@[simp] theorem State.raiseDemandChanges_senders (s before : State) :
    (s.raiseDemandChanges before).senders = s.senders := by
  rw [State.raiseDemandChanges_eq]
@[simp] theorem State.raiseDemandChanges_gauges (s before : State) :
    (s.raiseDemandChanges before).gauges = s.gauges := by
  rw [State.raiseDemandChanges_eq]
@[simp] theorem State.raiseDemandChanges_fan (s before : State) :
    (s.raiseDemandChanges before).fan = s.fan := by
  rw [State.raiseDemandChanges_eq]
@[simp] theorem State.raiseDemandChanges_supply (s before : State) :
    (s.raiseDemandChanges before).supply = s.supply := by
  rw [State.raiseDemandChanges_eq]
@[simp] theorem State.raiseDemandChanges_store (s before : State) :
    (s.raiseDemandChanges before).store = s.store := by
  rw [State.raiseDemandChanges_eq]
@[simp] theorem State.raiseDemandChanges_link (s before : State) :
    (s.raiseDemandChanges before).link = s.link := by
  rw [State.raiseDemandChanges_eq]
@[simp] theorem State.raiseDemandChanges_settings (s before : State) :
    (s.raiseDemandChanges before).settings = s.settings := by
  rw [State.raiseDemandChanges_eq]
@[simp] theorem State.raiseDemandChanges_tables (s before : State) :
    (s.raiseDemandChanges before).tables = s.tables := by
  rw [State.raiseDemandChanges_eq]
@[simp] theorem State.raiseDemandChanges_clockActs (s before : State) :
    (s.raiseDemandChanges before).clockActs = s.clockActs := by
  rw [State.raiseDemandChanges_eq]

/-- An event other than DEMAND_CHANGE is left as it was. -/
theorem State.raiseDemandChanges_event (s before : State) (e : Event) (h : e ≠ .demandChange) :
    (s.raiseDemandChanges before).event e = s.event e := by
  rw [State.raiseDemandChanges_fold]
  exact raiseEach_event (fun f => decide (s.eff f = before.eff f)) e h _ _

/-- DEMAND_CHANGE is left holding the highest-numbered function that changed, and as it was where none did (R15). -/
theorem State.raiseDemandChanges_demandChange (s before : State) :
    (∀ f, s.eff f ≠ before.eff f → (∀ g, f.idx < g.idx → s.eff g = before.eff g) →
      (s.raiseDemandChanges before).event .demandChange = ⟨true, f.idx.val⟩)
    ∧ ((∀ f, s.eff f = before.eff f) →
      (s.raiseDemandChanges before).event .demandChange = s.event .demandChange) := by
  rw [State.raiseDemandChanges_fold]
  generalize hp : (fun f => decide (s.eff f = before.eff f)) = p
  have hq : ∀ f, decide (s.eff f = before.eff f) = p f := fun f => by rw [← hp]
  simp only [hq]
  constructor
  · intro f hf hg
    have h0 : p f = false := by rw [← hq]; simpa using hf
    have h1 : ∀ g, f.idx < g.idx → p g = true := fun g hgt => by rw [← hq]; simpa using hg g hgt
    have split : ∃ a b, Fn.all = a ++ f :: b ∧ ∀ g ∈ b, f.idx < g.idx := by
      cases f
      · exact ⟨[], _, rfl, by decide⟩
      · exact ⟨[.ign], _, rfl, by decide⟩
      · exact ⟨[.ign, .side], _, rfl, by decide⟩
      · exact ⟨[.ign, .side, .head], _, rfl, by decide⟩
      · exact ⟨[.ign, .side, .head, .beam], _, rfl, by decide⟩
      · exact ⟨[.ign, .side, .head, .beam, .indL], _, rfl, by decide⟩
      · exact ⟨[.ign, .side, .head, .beam, .indL, .indR], _, rfl, by decide⟩
      · exact ⟨[.ign, .side, .head, .beam, .indL, .indR, .hazard], _, rfl, by decide⟩
      · exact ⟨[.ign, .side, .head, .beam, .indL, .indR, .hazard, .stop], _, rfl, by decide⟩
      · exact ⟨[.ign, .side, .head, .beam, .indL, .indR, .hazard, .stop, .instr], _, rfl, by decide⟩
      · exact ⟨[.ign, .side, .head, .beam, .indL, .indR, .hazard, .stop, .instr, .interior], _, rfl,
          by decide⟩
      · exact ⟨[.ign, .side, .head, .beam, .indL, .indR, .hazard, .stop, .instr, .interior, .fog], _, rfl,
          by decide⟩
      · exact ⟨[.ign, .side, .head, .beam, .indL, .indR, .hazard, .stop, .instr, .interior, .fog, .reverse],
          _, rfl, by decide⟩
    obtain ⟨a, b, hab, hb⟩ := split
    rw [hab, List.foldl_append, List.foldl_cons]
    generalize a.foldl _ s = u
    simp only [h0]
    have : ∀ (l : List Fn) (v : State), (∀ g ∈ l, p g = true) →
        l.foldl (fun t f => if p f = true then t else t.raise .demandChange f.idx.val) v = v := by
      intro l
      induction l with
      | nil => intro v _; rfl
      | cons g l ih =>
        intro v hl
        simp only [List.foldl_cons, hl g (by simp), if_true]
        exact ih v fun k hk => hl k (by simp [hk])
    rw [this b _ fun g hgb => h1 g (hb g hgb)]
    simp
  · intro hf
    have h1 : ∀ g, p g = true := fun g => by rw [← hq]; simpa using hf g
    generalize Fn.all = l
    induction l with
    | nil => rfl
    | cons g l ih => simpa only [List.foldl_cons, h1, if_true] using ih

/-! ### LIMP entry, LIMP exit and a valid frame: the fields they leave alone -/

@[simp] theorem State.enterLimp_pending (s : State) : s.enterLimp.pending = s.pending := by
  simp [State.enterLimp]
@[simp] theorem State.enterLimp_powered (s : State) : s.enterLimp.powered = s.powered := by
  simp [State.enterLimp]
@[simp] theorem State.enterLimp_restarting (s : State) : s.enterLimp.restarting = s.restarting := by
  simp [State.enterLimp]
@[simp] theorem State.enterLimp_inputs (s : State) : s.enterLimp.inputs = s.inputs := by
  simp [State.enterLimp]
@[simp] theorem State.enterLimp_senders (s : State) : s.enterLimp.senders = s.senders := by
  simp [State.enterLimp]
@[simp] theorem State.enterLimp_settings (s : State) : s.enterLimp.settings = s.settings := by
  simp [State.enterLimp]
@[simp] theorem State.enterLimp_tables (s : State) : s.enterLimp.tables = s.tables := by
  simp [State.enterLimp]
@[simp] theorem State.enterLimp_clockActs (s : State) : s.enterLimp.clockActs = s.clockActs := by
  simp [State.enterLimp]
@[simp] theorem State.exitLimp_pending (s : State) : s.exitLimp.pending = s.pending := by
  simp [State.exitLimp]
@[simp] theorem State.exitLimp_powered (s : State) : s.exitLimp.powered = s.powered := by
  simp [State.exitLimp]
@[simp] theorem State.exitLimp_restarting (s : State) : s.exitLimp.restarting = s.restarting := by
  simp [State.exitLimp]
@[simp] theorem State.exitLimp_inputs (s : State) : s.exitLimp.inputs = s.inputs := by
  simp [State.exitLimp]
@[simp] theorem State.exitLimp_reservation (s : State) : s.exitLimp.reservation = s.reservation := by
  simp [State.exitLimp]
@[simp] theorem State.exitLimp_senders (s : State) : s.exitLimp.senders = s.senders := by
  simp [State.exitLimp]
@[simp] theorem State.exitLimp_gauges (s : State) : s.exitLimp.gauges = s.gauges := by
  simp [State.exitLimp]
@[simp] theorem State.exitLimp_settings (s : State) : s.exitLimp.settings = s.settings := by
  simp [State.exitLimp]
@[simp] theorem State.exitLimp_tables (s : State) : s.exitLimp.tables = s.tables := by
  simp [State.exitLimp]
@[simp] theorem State.exitLimp_clockActs (s : State) : s.exitLimp.clockActs = s.clockActs := by
  simp [State.exitLimp]

@[simp] theorem State.exitLimp_link (s : State) :
    s.exitLimp.link = { s.link with limp := false, timer := 0 } := by
  simp [State.exitLimp]

@[simp] theorem State.enterLimp_link (s : State) :
    s.enterLimp.link = { s.link with limp := true, timer := 0 } := by
  simp [State.enterLimp]

/-- After a valid frame the part is out of LIMP and its link timer stands at zero (R162, R166, R168). -/
@[simp] theorem State.validFrame_link (s : State) :
    s.validFrame.link = { s.link with limp := false, timer := 0 } := by
  cases h : s.link.limp <;> simp [State.validFrame, h]

@[simp] theorem State.validFrame_pending (s : State) : s.validFrame.pending = s.pending := by
  unfold State.validFrame; dsimp only; split <;> simp
@[simp] theorem State.validFrame_powered (s : State) : s.validFrame.powered = s.powered := by
  unfold State.validFrame; dsimp only; split <;> simp
@[simp] theorem State.validFrame_restarting (s : State) : s.validFrame.restarting = s.restarting := by
  unfold State.validFrame; dsimp only; split <;> simp
@[simp] theorem State.validFrame_inputs (s : State) : s.validFrame.inputs = s.inputs := by
  unfold State.validFrame; dsimp only; split <;> simp
@[simp] theorem State.validFrame_reservation (s : State) : s.validFrame.reservation = s.reservation := by
  unfold State.validFrame; dsimp only; split <;> simp
@[simp] theorem State.validFrame_senders (s : State) : s.validFrame.senders = s.senders := by
  unfold State.validFrame; dsimp only; split <;> simp
@[simp] theorem State.validFrame_gauges (s : State) : s.validFrame.gauges = s.gauges := by
  unfold State.validFrame; dsimp only; split <;> simp
@[simp] theorem State.validFrame_settings (s : State) : s.validFrame.settings = s.settings := by
  unfold State.validFrame; dsimp only; split <;> simp
@[simp] theorem State.validFrame_tables (s : State) : s.validFrame.tables = s.tables := by
  unfold State.validFrame; dsimp only; split <;> simp
@[simp] theorem State.validFrame_clockActs (s : State) : s.validFrame.clockActs = s.clockActs := by
  unfold State.validFrame; dsimp only; split <;> simp

end Sys2Proof.Machine
end

