-- ==== Sys2Proof/Laws/Frames.lean ====
section
/-! SUPPORT. What a frame asks for, read off its kind and its payload, and the take of each request. -/

namespace Sys2Proof.Machine

/-- A frame asks for a request where its kind has that payload length and its fields spell the request (R174). -/
theorem Frame.asks_request (kind : Byte) (payload : List Byte) (n : Nat) (i : Instr)
    (hk : requestLength kind = some n) (hl : payload.length = n) (hr : requestOf kind payload = some i) :
    Frame.asks ⟨kind, payload⟩ = .request i := by
  simp [Frame.asks, hk, hl, hr]

/-- A one-byte field gives back a number that fits it. -/
theorem u8_reads_back {n : Nat} (h : fitsByte n = true) : (BitVec.ofNat 8 n).toNat = n := by
  simp only [fitsByte, decide_eq_true_eq] at h
  simp; omega

/-- A two-byte field gives back a number that fits it, low byte first (R174). -/
theorem pair_reads_back {n : Nat} (h : fitsPair n = true) :
    pair (BitVec.ofNat 8 n) (BitVec.ofNat 8 (n / 256)) = n := by
  simp only [fitsPair, decide_eq_true_eq] at h
  simp [pair]; omega

/-- A request command runs its take, the one a served frame runs. -/
theorem exec_request (i : Instr) (frame : Frame) (h : frameOf? i = some frame) :
    ∃ take, takeRequest i = some take ∧ ∀ s, exec i s = .next (s.serve i take) := by
  cases i <;> simp only [frameOf?, reduceCtorEq] at h <;> exact ⟨_, rfl, fun _ => rfl⟩

/-- No request's payload is longer than 17 bytes (R176). -/
theorem requestPayload_length (i : Instr) (frame : Frame) (h : frameOf? i = some frame) :
    frame.payload.length ≤ 17 := by
  cases i <;> simp only [frameOf?, reduceCtorEq, Option.some.injEq] at h <;> subst h <;> simp [u8, u16]

/-- A byte command in a running part. -/
theorem exec_byteReceived (s : State) (b : Byte) (h : s.powered = true) :
    exec (.byteReceived b) s = .next (s.receiveByte b) := by
  simp [exec, execByteReceived, State.whenPowered, h]

end Sys2Proof.Machine
end

