-- ==== Sys2Proof/Laws/Readings.lean ====
section
/-! SUPPORT. What rounding can give, said once for each kind of figure. -/

namespace Sys2Proof.Machine

/-- A figure in whole steps lies within half a step of them, whichever neighbour an exact half takes. -/
theorem nearestStep_near (step figure : Nat) (tieUp : Bool) (h : 0 < step) :
    2 * step * nearestStep step figure tieUp ≤ 2 * figure + step
    ∧ 2 * figure ≤ 2 * step * nearestStep step figure tieUp + step := by
  have e := Nat.div_add_mod figure step
  have l := Nat.mod_lt figure h
  unfold nearestStep
  dsimp only
  generalize figure / step = q at e ⊢
  generalize figure % step = r at e l ⊢
  have up : 2 * step * (q + 1) = 2 * (step * q) + 2 * step := by ring
  have dn : 2 * step * q = 2 * (step * q) := by ring
  repeat' split
  all_goals first | rw [up] | rw [dn]
  all_goals omega

/-- A current lies less than a step from its reading, which ends at the top of the range (R41, R110, R119, log 5). -/
theorem currentReading_near (top milliamps : Nat) : ∃ steps, currentReading top milliamps = min top (10 * steps)
    ∧ 10 * steps < milliamps + 10 ∧ milliamps < 10 * steps + 10 := by
  unfold currentReading
  dsimp only
  split
  · exact ⟨milliamps / 10, by congr 1; omega, by omega, by omega⟩
  · split
    · exact ⟨milliamps / 10 + 1, by congr 1; omega, by omega, by omega⟩
    · exact ⟨milliamps / 10, by congr 1; omega, by omega, by omega⟩

/-- A quotient to the nearest whole number, an exact half up (R72, R105, R106, R134). -/
theorem roundHalfUp_nearest (num den : Nat) (h : 0 < den) :
    2 * den * roundHalfUp num den ≤ 2 * num + den ∧ 2 * num + den < 2 * den * (roundHalfUp num den + 1) :=
  ⟨Nat.mul_div_le _ _, Nat.lt_mul_div_succ _ (by omega)⟩

end Sys2Proof.Machine
end

