-- ==== Sys2Proof/Laws/Settle.lean ====
section
/-! SUPPORT. The reaction of the blocks, once and whole: from any state it leaves one that has settled. -/

namespace Sys2Proof.Machine

variable (s : State)

/-! ### Views that the later parts of the reaction leave alone -/

/-- Effective values decide the sides. -/
theorem State.anySide_congr {s t : State} (h : t.functions = s.functions) : t.anySide = s.anySide := by
  simp [State.anySide, State.sideActive, State.throughIndicator, State.eff, State.fn, h]

/-- The call of a channel depends on the functions, the settings, the supply state, the charge condition, the cadence and
what the channels are, not on their timers. -/
theorem State.called_congr {s t : State} (hf : t.functions = s.functions) (hs : t.settings = s.settings)
    (hu : t.supply.state = s.supply.state) (hg : t.supply.charge = s.supply.charge)
    (hd : t.flasher.cadence = s.flasher.cadence)
    (hc : ∀ c, (t.channel c).hasFailed = (s.channel c).hasFailed) (c : Fin 16) : t.called c = s.called c := by
  have e : ∀ f, t.eff f = s.eff f := fun f => by simp [State.eff, State.fn, hf]
  have ra : ∀ r, t.roleActive r = s.roleActive r := by
    intro r
    cases r <;> simp [State.roleActive, State.sideActive, State.anySide, State.throughIndicator, e, hg]
  have rs : ∀ r, t.roleShed r = s.roleShed r := fun r => by
    unfold State.roleShed State.shedClass; rw [hs, hu]
  have od : ∀ x, t.ownDemand x = s.ownDemand x := by
    intro x
    have g : t.gathers x = s.gathers x := by funext m; simp [State.gathers, ra, rs]
    have d : t.roleDemand = s.roleDemand := by
      funext r; simp [State.roleDemand, State.roleDuty, e]
    simp [State.ownDemand, State.gathered, hs, g, d]
  have ca : ∀ x y, t.carriesTo x y = s.carriesTo x y := by
    intro x y
    simp only [State.carriesTo, State.channelConfig, hs, hc, od]
  have od' : t.ownDemand = s.ownDemand := funext od
  simp only [State.called, State.composedDemand, ca, od', hd]

/-- Following a call does not change whether a channel has failed. -/
theorem Channel.follow_hasFailed (x : Channel) (profile : Profile) (called : Bool) :
    (x.follow profile called).hasFailed = x.hasFailed := by
  obtain ⟨st, n, o, a, l, h, g, w, i⟩ := x
  cases st <;> cases called <;> cases profile <;> rfl

/-- Following a call is the table of `followedChannel`. -/
theorem Channel.follow_eq (x : Channel) (profile : Profile) (called : Bool) :
    x.follow profile called = followedChannel x profile called := by
  unfold Channel.follow Channel.activate Channel.stopIn followedChannel
  cases hx : x.state <;> cases called <;> simp [ChannelState.conducting]

/-- The state of the flasher after the reaction. -/
theorem State.react_flasher : s.react.flasher = s.flasherFollow.flasher := by
  simp [State.react]

theorem State.react_chargeCondition : s.react.chargeCondition = s.flasherFollow.chargeCondition := by
  simp [State.chargeCondition, State.eff, State.fn, State.react_supply]

/-- The store supply condition reads the supply state, the mean and the threshold alone. -/
theorem State.storeCondition_congr {s t : State} (hs : t.settings = s.settings)
    (hu : t.supply.state = s.supply.state) (hb : t.supply.batMean = s.supply.batMean) :
    t.storeCondition = s.storeCondition := by
  simp [State.storeCondition, hs, hu, hb]

theorem State.react_storeCondition : s.react.storeCondition = s.storeCondition :=
  State.storeCondition_congr (by simp) (by simp [State.react_supply]) (by simp [State.react_supply])

/-- A channel after the reaction is called as it was when it followed. -/
theorem State.react_called (c : Fin 16) :
    s.react.called c = s.flasherFollow.chargeFollow.storeFollow.fanFollow.called c := by
  refine State.called_congr ?_ ?_ ?_ ?_ ?_ ?_ c
  · simp [State.react]
  · simp [State.react]
  · simp [State.react]
  · simp [State.react]
  · simp [State.react]
  · intro x
    rw [State.react_channel, Channel.follow_hasFailed]
    simp [State.channel]

/-! ### The parts of the specification -/

/-- The half-period is the nearest whole number, an exact half up (R72). -/
theorem halfPeriod_nearest (rate : Nat) (doubled : Bool) (h : 0 < rate) :
    let d := if doubled = true then 2 * rate else rate
    2 * d * halfPeriod rate doubled ≤ 60000 + d ∧ 60000 + d < 2 * d * (halfPeriod rate doubled + 1) :=
  roundHalfUp_nearest 30000 _ (by split <;> omega)

/-- The doubling judgement names an active side, a failed channel and an enabled entry that covers it (R73). -/
theorem State.judgesDoubled_iff : s.judgesDoubled = true ↔ ∃ (side : Side) (c : Fin 16) (k : Fin 16),
    s.sideActive side = true ∧ ((s.channel c).openFlag = true ∨ (s.channel c).state = .lockedOff)
    ∧ (s.mapEntry k).enabled = true ∧ (s.mapEntry k).role = indicatorRole side
    ∧ (s.mapEntry k).first ≤ c ∧ c ≤ (s.mapEntry k).last := by
  have side : ∀ side, s.sideHasFailedLamp side = true ↔ ∃ (c : Fin 16) (k : Fin 16),
      ((s.channel c).openFlag = true ∨ (s.channel c).state = .lockedOff)
      ∧ (s.mapEntry k).enabled = true ∧ (s.mapEntry k).role = indicatorRole side
      ∧ (s.mapEntry k).first ≤ c ∧ c ≤ (s.mapEntry k).last := by
    intro side
    simp only [State.sideHasFailedLamp, List.any_eq_true, List.mem_finRange, true_and, Bool.and_eq_true,
      Bool.or_eq_true, beq_iff_eq, MapEntry.covers, decide_eq_true_eq, State.mapEntry]
    constructor
    · rintro ⟨c, hc, e, he, hr, ⟨hen, ha⟩, hb⟩
      obtain ⟨k, hk, rfl⟩ := List.mem_iff_getElem.1 he
      simp only [Vector.getElem_toList, Vector.length_toList] at hk hr hen ha hb ⊢
      exact ⟨c, ⟨k, hk⟩, hc, hen, hr, ha, hb⟩
    · rintro ⟨c, k, hc, hen, hr, ha, hb⟩
      refine ⟨c, hc, s.settings.map[k], ?_, hr, ⟨hen, ha⟩, hb⟩
      simp
  simp only [State.judgesDoubled, Bool.or_eq_true, Bool.and_eq_true, side]
  constructor
  · rintro (⟨ha, c, k, h⟩ | ⟨ha, c, k, h⟩)
    · exact ⟨.left, c, k, ha, h⟩
    · exact ⟨.right, c, k, ha, h⟩
  · rintro ⟨side, c, k, ha, h⟩
    cases side
    · exact .inl ⟨ha, c, k, h⟩
    · exact .inr ⟨ha, c, k, h⟩

/-- The doubling judgement reads functions, settings, and what has failed. -/
theorem State.judgesDoubled_congr {s t : State} (hf : t.functions = s.functions) (hs : t.settings = s.settings)
    (hc : ∀ c, (t.channel c).openFlag = (s.channel c).openFlag
      ∧ ((t.channel c).state = .lockedOff ↔ (s.channel c).state = .lockedOff)) :
    t.judgesDoubled = s.judgesDoubled := by
  have h : t.judgesDoubled = true ↔ s.judgesDoubled = true := by
    rw [State.judgesDoubled_iff, State.judgesDoubled_iff]
    simp only [(hc _).1, (hc _).2, State.mapEntry, hs, State.sideActive, State.throughIndicator, State.eff, State.fn,
      hf]
  cases ht : t.judgesDoubled <;> simp_all

/-- A phase that has just begun is fixed as R72 and R73 say. -/
theorem State.phaseFixed_of_judged {s : State} (hd : s.flasher.doubled = s.judgesDoubled)
    (hl : s.flasher.phaseLength = halfPeriod s.settings.flashRate s.flasher.doubled) : s.phaseFixed := by
  refine ⟨?_, fun hr => ?_⟩
  · rw [hd, State.judgesDoubled_iff]
    constructor <;> rintro ⟨side, c, k, h⟩ <;> cases side <;> exact ⟨_, c, k, h⟩
  · rw [hl]; exact halfPeriod_nearest _ _ hr

/-- Following a call neither locks a channel off nor unlocks one, and keeps its flag. -/
theorem Channel.follow_failed (x : Channel) (profile : Profile) (called : Bool) :
    (x.follow profile called).openFlag = x.openFlag
    ∧ ((x.follow profile called).state = .lockedOff ↔ x.state = .lockedOff) := by
  obtain ⟨st, n, o, a, l, h, g, w, i⟩ := x
  refine ⟨(Channel.follow_keeps _ _ _).2.1, ?_⟩
  cases st <;> cases called <;> cases profile <;>
    simp [Channel.follow, Channel.activate, Channel.stopIn, ChannelState.conducting]

/-- The cadence after the reaction (R68, R70 to R73). -/
theorem State.react_cadence : (s.react.anySide = false →
      s.react.flasher.cadence = .idle ∧ s.react.flasher.phaseTimer = 0 ∧ s.react.flasher.phaseLength = 0
        ∧ s.react.flasher.doubled = false)
    ∧ (s.react.anySide = true → s.flasher.cadence = .idle →
      s.react.flasher.cadence = .onPhase ∧ s.react.flasher.phaseTimer = 0 ∧ s.react.phaseFixed)
    ∧ (s.react.anySide = true → s.flasher.cadence ≠ .idle →
      s.react.flasher.cadence = s.flasher.cadence ∧ s.react.flasher.phaseTimer = s.flasher.phaseTimer
        ∧ s.react.flasher.phaseLength = s.flasher.phaseLength
        ∧ s.react.flasher.doubled = s.flasher.doubled) := by
  rw [State.anySide_congr (s := s) (t := s.react) (by simp)]
  have started : s.anySide = true → s.flasher.cadence = .idle →
      s.react.flasher.cadence = .onPhase ∧ s.react.flasher.phaseTimer = 0 ∧ s.react.flasher.doubled = s.judgesDoubled
        ∧ s.react.flasher.phaseLength = halfPeriod s.settings.flashRate s.judgesDoubled := by
    intro h hc
    rw [State.react_flasher]
    simp [State.flasherFollow, State.runOnFollow, State.cadenceFollow, h, hc, State.beginPhase]
  refine ⟨fun h => ?_, fun h hc => ?_, fun h hc => ?_⟩
  · rw [State.react_flasher]
    simp [State.flasherFollow, State.runOnFollow, State.cadenceFollow, h, Flasher.stop]
  · obtain ⟨h1, h2, h3, h4⟩ := started h hc
    have hj : s.react.judgesDoubled = s.judgesDoubled :=
      State.judgesDoubled_congr (by simp) (by simp) fun c => by
        rw [State.react_channel]; exact Channel.follow_failed _ _ _
    exact ⟨h1, h2, State.phaseFixed_of_judged (by rw [h3, hj]) (by rw [h4, h3]; simp)⟩
  · rw [State.react_flasher]
    simp [State.flasherFollow, State.runOnFollow, State.cadenceFollow, h, hc]

/-- A side's condition is a matter of functions and settings. -/
theorem State.runOnRuns_congr {s t : State} (hf : t.functions = s.functions) (hs : t.settings = s.settings)
    (side : Side) : t.runOnRuns side = s.runOnRuns side := by
  simp [State.runOnRuns, State.throughIndicator, State.eff, State.fn, hf, hs]

/-- The run-on timers after the reaction (R76). -/
theorem State.react_runOn (side : Side) : s.react.runOn side =
    (if s.react.runOnRuns side = true then some ((s.runOn side).getD 0) else none) := by
  rw [State.runOnRuns_congr (s := s) (t := s.react) (by simp) (by simp)]
  have e : s.cadenceFollow.runOnRuns side = s.runOnRuns side :=
    State.runOnRuns_congr (by simp) (by simp) side
  have k : s.cadenceFollow.runOn side = s.runOn side := by
    unfold State.cadenceFollow State.runOn State.beginPhase Flasher.stop
    cases side <;> (repeat' split) <;> rfl
  cases side <;> simp only [State.runOn] at k ⊢ <;>
    simp [State.react_flasher, State.flasherFollow, State.runOnFollow, followTimer, e, k]

/-- A channel after the reaction, by the table (R47, R52, R58, R60). -/
theorem State.react_channel_table (c : Fin 16) : s.react.channel c =
    followedChannel (s.channel c) (s.channelConfig c).profile (s.react.called c) := by
  rw [State.react_channel, Channel.follow_eq, State.react_called]

/-- CHARGE_WARN after the reaction (R146). -/
theorem State.react_chargeWarn : s.react.event .chargeWarn =
    (if s.react.supply.charge = true ∧ s.supply.charge = false then ⟨true, 0⟩
      else s.event .chargeWarn) := by
  have h2 : ∀ u : State, u.storeFollow.event .chargeWarn = u.event .chargeWarn := by
    intro u
    unfold State.storeFollow State.failProgramming
    repeat' split
    · rfl
    · exact State.raise_event_of_ne _ _ (by decide)
    · rfl
  have h0 : s.react.event .chargeWarn = s.flasherFollow.chargeFollow.storeFollow.event .chargeWarn := by
    simp [State.event, State.react]
  rw [h0, h2, State.react_supply]
  unfold State.chargeFollow
  cases h : s.flasherFollow.chargeCondition <;> cases hs : s.supply.charge <;>
    simp [hs, State.event, State.raise]

/-- The store after the reaction (R156). -/
theorem State.react_store_table : (s.store.programming = none ∨ s.react.storeCondition = true →
      s.react.store = s.store ∧ s.react.event .storeFail = s.event .storeFail)
    ∧ (∀ p, s.store.programming = some p → s.react.storeCondition = false →
      s.react.store = { s.store with programming := none, failure := some ⟨p.image.page, .lowSupply⟩ }
        ∧ s.react.event .storeFail = ⟨true, p.image.page.val⟩) := by
  have h0 : s.react.event .storeFail = s.flasherFollow.chargeFollow.storeFollow.event .storeFail := by
    simp [State.event, State.react]
  have h1 : s.flasherFollow.chargeFollow.event .storeFail = s.event .storeFail := by
    unfold State.chargeFollow; dsimp only; split
    · rw [State.raise_event_of_ne _ _ (by decide)]; simp [State.event]
    · simp [State.event]
  have hc : s.flasherFollow.chargeFollow.storeCondition = s.storeCondition :=
    State.storeCondition_congr (by simp) (by simp [State.chargeFollow_supply])
      (by simp [State.chargeFollow_supply])
  rw [h0, State.react_store, State.react_storeCondition]
  cases h : s.store.programming with
  | none => simp [State.storeFollow, h, h1]
  | some p =>
    cases hs : s.storeCondition
    · simp [State.storeFollow, h, hc, hs, State.failProgramming, State.event, State.raise]
    · simp [State.storeFollow, h, h1, hc, hs]

/-- The reaction, once and whole. -/
theorem State.react_same : s.sameBeyondReaction s.react where
  pending := by simp
  powered := by simp
  restarting := by simp
  inputs := by simp
  functions := by simp
  reservation := by simp
  cadence := s.react_cadence
  runOn := s.react_runOn
  channels := s.react_channel_table
  senders := by simp
  gauges := by simp
  fan := by rw [State.react_fan]; exact ⟨(Fan.follow_keeps _ _ _).1, (Fan.follow_keeps _ _ _).2.1⟩
  supply := by rw [State.react_supply]
  charge := s.react_chargeWarn
  store := s.react_store_table
  link := by simp
  events := fun e h h' => State.react_event s e h h'
  settings := by simp
  tables := by simp
  clockActs := by simp

/-- A reaction leaves the pages and the staging buffer alone. -/
theorem State.sameBeyondReaction.pages {s t : State} (h : s.sameBeyondReaction t) :
    t.store.tablePages = s.store.tablePages ∧ t.store.settingsPage = s.store.settingsPage
    ∧ t.store.staging = s.store.staging := by
  cases hp : s.store.programming with
  | none => rw [(h.store.1 (.inl hp)).1]; exact ⟨rfl, rfl, rfl⟩
  | some p =>
    cases hc : t.storeCondition
    · rw [(h.store.2 p hp hc).1]; exact ⟨rfl, rfl, rfl⟩
    · rw [(h.store.1 (.inr hc)).1]; exact ⟨rfl, rfl, rfl⟩

/-! ### Nothing lags after it -/

/-- After the reaction the channels and the cadence follow (R35, R46, R68, R70). -/
theorem State.react_calls : s.react.CallsFollowed := by
  refine ⟨fun c => ?_, ?_⟩
  · have h := s.react_channel_table c
    have e : s.react.channels[c] = s.react.channel c := rfl
    rw [e, h]
    generalize s.react.called c = b
    unfold followedChannel
    cases hx : (s.channel c).state <;> cases b <;> simp [ChannelState.conducting, hx]
    cases (s.channelConfig c).profile <;> simp
  · have h := s.react_cadence
    cases ha : s.react.anySide
    · simp [(h.1 ha).1]
    · by_cases hc : s.flasher.cadence = .idle
      · simp [(h.2.1 ha hc).1]
      · simp [(h.2.2 ha hc).1, hc]

/-- After the reaction the charge condition, the run-on timers and the store follow (R76, R146, R156). -/
theorem State.react_conditions : s.react.ConditionsFollowed := by
  refine ⟨?_, ?_, ?_, ?_⟩
  · rw [State.react_chargeCondition, State.react_supply]
  · have h := s.react_runOn .left
    simp only [State.runOn] at h
    rw [h]; split <;> simp_all
  · have h := s.react_runOn .right
    simp only [State.runOn] at h
    rw [h]; split <;> simp_all
  · have h := s.react_store_table
    intro hp
    cases hs : s.store.programming with
    | none => rw [(h.1 (.inl hs)).1, hs] at hp; simp at hp
    | some p =>
      by_contra hn
      rw [(h.2 p hs (by simpa using hn)).1] at hp
      simp at hp

/-- The target duty is a matter of the target step, the settings and the supply state. -/
theorem State.react_fanTarget :
    s.react.fanTarget = s.flasherFollow.chargeFollow.storeFollow.fanTarget := by
  have e : s.react.fan.targetStep = s.fan.targetStep := by
    rw [State.react_fan]
    exact (Fan.follow_keeps _ _ _).2.2.1
  simp [State.fanTarget, State.fanCap, e, State.react_supply, State.chargeFollow_supply]

/-- The reaction settles whatever it is given: what every command that ends in it can do, said once. -/
theorem State.react_settled : s.settledAs s.react where
  same := s.react_same
  fan := by rw [State.react_fan, State.react_fanTarget]
  calls := s.react_calls
  conditions := s.react_conditions

/-! ### A change of effective values -/

/-- The reaction to a change of effective values: the fan takes the change, and then the blocks settle. -/
theorem State.reactFrom_settled (before : State) :
    (s.fanOnDemand before).settledAs (s.reactFrom before) := State.react_settled _

/-- The fan's part in a change of effective values changes the fan alone. -/
theorem State.fanOnDemand_eq (before : State) :
    s.fanOnDemand before = { s with fan := (s.fanOnDemand before).fan } := by
  unfold State.fanOnDemand State.fanOnFunction State.fanOnIgnition State.fanToZero State.dropStep
    State.startSettle State.endSettle
  repeat' split
  all_goals rfl

/-- The fan's part in a change of FAN (R122, R128). -/
theorem State.fanOnFunction_fan (before : Nat) : (s.fanOnFunction before).fan =
    if s.eff .fan = before then s.fan
    else if s.eff .fan = 0 then
      { s.fan with
        settle := none, targetStep := 0, stallCount := 0
        state := if s.fan.state = .stallLock then .off else s.fan.state }
    else s.startSettle.fan := by
  unfold State.fanOnFunction State.fanToZero State.dropStep
  split
  · rfl
  · split <;> rfl

/-- The fan's part in a change of IGN (R122). -/
theorem State.fanOnIgnition_fan (before : Nat) : (s.fanOnIgnition before).fan =
    if s.eff .ign = before ∨ s.settings.fan.ignitionFed = false then s.fan
    else if s.eff .ign ≠ 1 then { s.fan with settle := none, targetStep := 0 }
    else if s.eff .fan = 0 then s.fan
    else s.startSettle.fan := by
  unfold State.fanOnIgnition State.dropStep
  by_cases h1 : s.eff .ign = before <;> cases h2 : s.settings.fan.ignitionFed <;>
    by_cases h3 : s.eff .ign = 1 <;> by_cases h4 : s.eff .fan = 0 <;> simp_all

/-- The settle timer's start, on the fan alone (R122). -/
theorem State.startSettle_fan : s.startSettle.fan =
    if s.settings.fan.settleWindow = 0 then
      { s.fan with
        settle := none
        targetStep := if s.settings.fan.ignitionFed = true ∧ s.eff .ign ≠ 1 then 0 else s.eff .fan }
    else { s.fan with settle := some 0 } := by
  have step : s.chosenStep = if s.settings.fan.ignitionFed = true ∧ s.eff .ign ≠ 1 then 0 else s.eff .fan := by
    simp [State.chosenStep]
  unfold State.startSettle State.endSettle
  rw [step]
  split <;> rfl

/-- What the fan takes of a change of effective values is the table of `fanAfterDemand` (R122, R128, log 30). -/
theorem State.fanOnDemand_fan {s before : State} (hf : s.fan = before.fan)
    (hs : s.settings.fan = before.settings.fan) : (s.fanOnDemand before).fan = before.fanAfterDemand s := by
  have e : s.fanOnIgnition (before.eff .ign) = { s with fan := (s.fanOnIgnition (before.eff .ign)).fan } := by
    unfold State.fanOnIgnition State.dropStep State.startSettle State.endSettle
    repeat' split
    all_goals rfl
  unfold State.fanOnDemand State.fanAfterDemand
  rw [e, State.fanOnFunction_fan, State.startSettle_fan, State.fanOnIgnition_fan, State.startSettle_fan]
  simp only [State.eff, State.fn, hf, hs]
  rfl

/-- What a write of a function's record can touch, said once (R9, R16). -/
theorem State.writeFn_same (f : Fn) (r : FnRecord) : s.sameBeyondFunction (s.writeFn f r) f := by
  have h := State.reactFrom_settled ((s.clearReservation f).setFn f r) s
  have hd : (s.writeFn f r).event .demandChange = s.event .demandChange := by
    rw [State.writeFn, h.same.events _ (by decide) (by decide)]; simp [State.event]
  constructor
  case others =>
    intro g hg
    simp only [State.writeFn, State.fn, h.same.functions, State.fanOnDemand_functions]
    have : ((s.clearReservation f).setFn f r).fn g = (s.clearReservation f).fn g :=
      State.setFn_fn_of_ne _ _ (Ne.symm hg)
    exact this
  case settled =>
    have hfan : (((s.clearReservation f).setFn f r).fanOnDemand s).fan
        = s.fanAfterDemand ((s.clearReservation f).setFn f r) := State.fanOnDemand_fan rfl rfl
    have hu := State.fanOnDemand_eq ((s.clearReservation f).setFn f r) s
    rw [hfan] at hu
    have hfn : (s.writeFn f r).functions = ((s.clearReservation f).setFn f r).functions := by
      rw [State.writeFn, h.same.functions, State.fanOnDemand_functions]
    have htaken : s.fanAfterDemand (s.writeFn f r) = s.fanAfterDemand ((s.clearReservation f).setFn f r) := by
      simp only [State.fanAfterDemand, State.eff, State.fn, hfn]; rfl
    have hev : s.events.set Event.demandChange.idx ((s.writeFn f r).event .demandChange) = s.events := by
      rw [hd]; simp [State.event]
    have hr : (s.writeFn f r).reservation = ((s.clearReservation f).setFn f r).reservation := by
      rw [State.writeFn, h.same.reservation, State.fanOnDemand_reservation]
    have hl : (s.writeFn f r).link = s.link := by
      rw [State.writeFn, h.same.link, State.fanOnDemand_link]; rfl
    have hst : (s.writeFn f r).settings = s.settings := by
      rw [State.writeFn, h.same.settings, State.fanOnDemand_settings]; rfl
    rw [hfn, hr, hl, hst, hev, htaken]
    rw [hu] at h
    exact h

/-- The written function's record, the reservation and DEMAND_CHANGE after a write (R9, R15, R16). -/
theorem State.writeFn_wrote (f : Fn) (r : FnRecord) :
    (s.writeFn f r).fn f = r
    ∧ (s.writeFn f r).reservation = (if s.reservation = some f then none else s.reservation)
    ∧ (s.writeFn f r).event .demandChange = s.event .demandChange
    ∧ (s.writeFn f r).CallsFollowed ∧ (s.writeFn f r).ConditionsFollowed := by
  have h := State.reactFrom_settled ((s.clearReservation f).setFn f r) s
  refine ⟨?_, ?_, ?_, h.calls, h.conditions⟩
  · simp [State.writeFn, State.fn, State.setFn]
  · simp [State.writeFn, State.clearReservation, State.setFn]
  · rw [State.writeFn, h.same.events _ (by decide) (by decide)]; simp [State.event]

/-- A switch value change is the table of R10. -/
theorem switchRecord_eq (f : Fn) (mode : SourceMode) (r : FnRecord) (value : Nat) :
    switchRecord f mode r value
      = (movedRecord f mode r value, decide (mode ≠ .linkOnly ∨ r.latch = true)) := by
  obtain ⟨sw, l, e, la⟩ := r
  cases mode <;> cases la <;> cases l <;> simp [switchRecord, movedRecord, modeEvaluation]

end Sys2Proof.Machine
end

