-- ==== Sys2Proof/Laws/Takes.lean ====
section
/-! SUPPORT. No request touches the link by being taken: only the serving around it does. -/

namespace Sys2Proof.Machine

theorem refuse_link (status : Status) (s : State) : (refuse status s).1.link = s.link := rfl

theorem accept_link (s : State) (fields : List Byte) : (accept s fields).1.link = s.link := rfl

@[simp] theorem State.replaceBinding_link (s : State) (i : Fin 12) (b : Binding) :
    (s.replaceBinding i b).link = s.link := by
  unfold State.replaceBinding; dsimp only; split <;> rfl

@[simp] theorem State.leaveFunction_link (s : State) (i : Fin 12) (b : Binding) :
    (s.leaveFunction i b).link = s.link := by
  unfold State.leaveFunction; split <;> simp

@[simp] theorem State.joinFunction_link (s : State) (b : Binding) (k : Fn → Bool) :
    (s.joinFunction b k).link = s.link := by
  unfold State.joinFunction; repeat' split
  all_goals simp

@[simp] theorem State.restUnbound_link (s : State) (b : Binding) : (s.restUnbound b).link = s.link := by
  unfold State.restUnbound; repeat' split
  all_goals simp

@[simp] theorem State.debounceTo_link (s : State) (i : Fin 12) (v : Debounced) :
    (s.debounceTo i v).link = s.link := by
  unfold State.debounceTo; dsimp only; repeat' split
  all_goals simp

@[simp] theorem State.settleIfDue_link (s : State) (i : Fin 12) : (s.settleIfDue i).link = s.link := by
  unfold State.settleIfDue State.settleInput; split <;> simp

@[simp] theorem State.bindInput_link (s : State) (i : Fin 12) (b : Binding) :
    (s.bindInput i b).link = s.link := by
  simp [State.bindInput]

@[simp] theorem State.cancelSide_link (s : State) (side : Side) : (s.cancelSide side).link = s.link := by
  simp [State.cancelSide]

@[simp] theorem State.expireIfDue_link (s : State) (side : Side) : (s.expireIfDue side).link = s.link := by
  unfold State.expireIfDue; repeat' split
  all_goals simp

@[simp] theorem State.changeFlasher_link (s : State) (rate limit : Nat) :
    (s.changeFlasher rate limit).link = s.link := by
  simp [State.changeFlasher]

@[simp] theorem State.fanOnFeed_link (s : State) (before : Bool) : (s.fanOnFeed before).link = s.link := by
  unfold State.fanOnFeed; dsimp only; repeat' split
  all_goals simp

@[simp] theorem State.settleWindowJudged_link (s : State) : s.settleWindowJudged.link = s.link := by
  unfold State.settleWindowJudged; repeat' split
  all_goals simp

/-- Taking a request leaves the link as it was. -/
theorem takeRequest_link (i : Instr) (take : State → State × Reply) (h : takeRequest i = some take) (s : State) :
    (take s).1.link = s.link := by
  cases i <;> simp only [takeRequest, reduceCtorEq, Option.some.injEq] at h <;> subst h
  case hello => rfl
  case restart => unfold takeRestart; split <;> rfl
  case readEvents => rfl
  case setEvent => unfold takeSetEvent; split <;> rfl
  case setAttnLevel => rfl
  case setLinkTimeout => rfl
  case readDemand => unfold takeReadDemand; dsimp only; repeat' split
                     all_goals rfl
  case setDemand => unfold takeSetDemand; repeat' split
                    all_goals simp [refuse, accept, State.linkWrite]
  case setDemandIf => unfold takeSetDemandIf; repeat' split
                      all_goals simp [refuse, accept, State.linkWrite]
  case releaseDemand => unfold takeReleaseDemand; repeat' split
                        all_goals simp [refuse, accept]
  case setFunction => unfold takeSetFunction; repeat' split
                      all_goals simp [refuse, accept]
  case setInput => unfold takeSetInput; split <;> simp [refuse, accept]
  case readInputs => unfold takeReadInputs; split <;> rfl
  case setMap => unfold takeSetMap; dsimp only; repeat' split
                 all_goals simp [refuse, accept]
  case readMap => unfold takeReadMap; split <;> rfl
  case setRole => unfold takeSetRole; split <;> simp [refuse, accept]
  case setChannel => unfold takeSetChannel; dsimp only; repeat' split
                     all_goals simp [refuse, accept]
  case readChannel => unfold takeReadChannel; split <;> rfl
  case clearChannel => unfold takeClearChannel; split <;> simp [refuse, accept, State.clearChannel]
  case setFlasher => simp [takeSetFlasher, accept]
  case readFlasher => rfl
  case setGauge => unfold takeSetGauge; split <;> rfl
  case readGauge => unfold takeReadGauge; repeat' split
                    all_goals rfl
  case setGaugePosition => unfold takeSetGaugePosition; repeat' split
                           all_goals rfl
  case setSender => unfold takeSetSender; split <;> rfl
  case readSender => unfold takeReadSender; split <;> rfl
  case setFan => unfold takeSetFan; split <;> simp [refuse, accept, State.changeFan]
  case readFan => rfl
  case setSupply => unfold takeSetSupply; dsimp only; repeat' split
                    all_goals simp [refuse, accept, State.changeSupply]
  case readSupply => unfold takeReadSupply; repeat' split
                     all_goals rfl
  case tableOpen => unfold takeTableOpen; repeat' split
                    all_goals rfl
  case tablePoint => unfold takeTablePoint; repeat' split
                     all_goals rfl
  case tableCommit => unfold takeTableCommit; repeat' split
                      all_goals simp [refuse, accept]
  case tableRead => unfold takeTableRead; repeat' split
                    all_goals rfl
  case saveSettings => unfold takeSaveSettings; split <;> simp [refuse, accept]
  case readStore => rfl

/-- Taking whatever a frame asks for leaves the link as it was. -/
theorem takeFrame_link (frame : Frame) (s : State) : (takeFrame frame s).1.link = s.link := by
  unfold takeFrame
  split
  · rfl
  · rfl
  · split
    · exact takeRequest_link _ _ (by assumption) s
    · rfl

end Sys2Proof.Machine
end

