-- ==== Sys2Proof/Tests/Slice0.lean ====
section
/-! SUPPORT. Tests. First the ill-formed requests that wellFormed refuses; then, for every obligation with hypotheses, a state and
operands that meet those of each clause; then the spec's own worked figures. Each figure's source is named. -/

namespace Sys2Proof.Tests

open Sys2Proof Sys2Proof.Machine

/-! ### WellFormed -/

/-- One request for each field check of one byte or two, each too wide for that field alone. -/
def illFormedDemand : List Instr :=
  [.setEvent 256 0 0, .setEvent 0 256 0, .setEvent 0 0 256, .setAttnLevel 256, .setLinkTimeout 65536,
   .readDemand 256 0, .readDemand 0 256, .setDemand 256 0, .setDemand 0 65536, .setDemandIf 256 0,
   .setDemandIf 0 65536, .releaseDemand 256, .setFunction 256 0, .setFunction 0 256,
   .setInput 256 0 0 0 0 0, .setInput 0 256 0 0 0 0, .setInput 0 0 256 0 0 0, .setInput 0 0 0 65536 0 0,
   .setInput 0 0 0 0 256 0, .setInput 0 0 0 0 0 256, .readInputs 256]

def illFormedLighting : List Instr :=
  [.setMap 256 0 0 0 0, .setMap 0 256 0 0 0, .setMap 0 0 256 0 0, .setMap 0 0 0 256 0, .setMap 0 0 0 0 256,
   .readMap 256, .setRole 256 0, .setRole 0 256, .setChannel 256 0 0 0 0 0 0 0 0,
   .setChannel 0 256 0 0 0 0 0 0 0, .setChannel 0 0 65536 0 0 0 0 0 0, .setChannel 0 0 0 65536 0 0 0 0 0,
   .setChannel 0 0 0 0 65536 0 0 0 0, .setChannel 0 0 0 0 0 65536 0 0 0, .setChannel 0 0 0 0 0 0 65536 0 0,
   .setChannel 0 0 0 0 0 0 0 65536 0, .setChannel 0 0 0 0 0 0 0 0 256, .readChannel 256, .clearChannel 256,
   .setFlasher 256 0, .setFlasher 0 65536]

def illFormedBlocks : List Instr :=
  [.setGauge 256 0 0 0 0, .setGauge 0 256 0 0 0, .setGauge 0 0 256 0 0, .setGauge 0 0 0 65536 0,
   .setGauge 0 0 0 0 256, .readGauge 256 0, .readGauge 0 256, .setGaugePosition 256 0,
   .setGaugePosition 0 65536, .setSender 256 0 0, .setSender 0 65536 0, .setSender 0 0 65536, .readSender 256,
   .setFan 65536 0 0 0 0 0 0 0, .setFan 0 65536 0 0 0 0 0 0, .setFan 0 0 65536 0 0 0 0 0,
   .setFan 0 0 0 65536 0 0 0 0, .setFan 0 0 0 0 65536 0 0 0, .setFan 0 0 0 0 0 65536 0 0,
   .setFan 0 0 0 0 0 0 65536 0, .setFan 0 0 0 0 0 0 0 256]

def illFormedStore : List Instr :=
  [.setSupply 256 0 0 0 0 0 0 0 0, .setSupply 0 65536 0 0 0 0 0 0 0, .setSupply 0 0 65536 0 0 0 0 0 0,
   .setSupply 0 0 0 65536 0 0 0 0 0, .setSupply 0 0 0 0 65536 0 0 0 0, .setSupply 0 0 0 0 0 65536 0 0 0,
   .setSupply 0 0 0 0 0 0 65536 0 0, .setSupply 0 0 0 0 0 0 0 65536 0, .setSupply 0 0 0 0 0 0 0 0 65536,
   .readSupply 256, .tableOpen 256 0, .tableOpen 0 256, .tablePoint 65536 0, .tablePoint 0 65536,
   .tableCommit 256, .tableRead 256 0, .tableRead 0 256]

theorem test_ill_formed_demand_refused : illFormedDemand.all (fun i => !i.wellFormed) = true := by decide
theorem test_ill_formed_lighting_refused : illFormedLighting.all (fun i => !i.wellFormed) = true := by decide
theorem test_ill_formed_blocks_refused : illFormedBlocks.all (fun i => !i.wellFormed) = true := by decide
theorem test_ill_formed_store_refused : illFormedStore.all (fun i => !i.wellFormed) = true := by decide

/-! ### Small states -/

/-- The part after reset with one channel's record. -/
def withChannel (c : Fin 16) (x : Channel) : State := State.reset.setChannel c x

/-- The part after reset with one function's effective value. -/
def withValue (f : Fn) (v : Nat) : State :=
  State.reset.setFn f { State.reset.fn f with switch := v, effective := v }

/-- The part after reset with a fan record. -/
def withFan (f : Fan) : State := { State.reset with fan := f }

/-- The part after reset with its link. -/
def withLink (l : Link) : State := { State.reset with link := l }

/-- The part after reset with its store. -/
def withStore (st : Store) : State := { State.reset with store := st }

/-- The part after reset in a supply state with a BAT mean and timers. -/
def withSupply (state : SupplyState) (mean : Nat) (timers : SupplyTimers) : State :=
  { State.reset with supply := { startSupply with state := state, batMean := some mean, timers := timers } }

/-- The part after reset with the mode of every function. -/
def withModes (m : SourceMode) (s : State) : State :=
  { s with settings := { s.settings with modes := Vector.replicate 13 m } }

/-- The part after reset with one input. -/
def withInput (i : Fin 12) (x : Input) : State := State.reset.setInput i x

/-- The part after reset with one gauge. -/
def withGauge (g : Fin 4) (x : Gauge) : State := State.reset.setGauge g x

/-- The part after reset with one sender. -/
def withSender (n : Fin 4) (x : Sender) : State := State.reset.setSender n x

/-- A started supply timer. -/
def going : SupplyTimer := ⟨true, 0, 0⟩

/-- An open staging buffer on T0. -/
def buffer (pointer length : Nat) : Staging :=
  ⟨0, pointer, length, vecOfFn fun i => ⟨i.val, 0⟩⟩

/-- The command leaves a next state of which the property holds. -/
def leaves (c : Instr) (s : State) (p : State → Bool) : Bool :=
  match exec c s with
  | .next t => p t
  | _ => false

/-! ### Hypotheses that can be met -/

theorem witness_EmptyQueueLetsTheClockAct :
    (State.reset.pending = [] ∧ State.reset.due = none ∧ State.reset.powered = true)
    ∧ (withLink { startLink with receiver := .wantLen, gap := 6 }).due = some .frameGapTimeout := by decide

/-- A fan in RAMP, a channel in TRIP_WAIT, an open run-on timer and a low run: each at its figure has its command due. -/
theorem witness_TimersAreDueAtTheirFigures :
    State.reset.powered = true ∧ State.reset.hold.powered = false
    ∧ (withFan { startFan with state := .ramp, rampTimer := 200, rampSteps := 1 }).due = some .fanRampStep
    ∧ (withFan { startFan with state := .ramp, rampTimer := 199, rampSteps := 1 }).due = none
    ∧ (withChannel 4 { startChannel with state := .tripWait, wait := 1000 }).due = some (.tripWaitEnd 4)
    ∧ (withChannel 4 { startChannel with state := .on, lowRun := some 49 }).due = none := by decide

theorem witness_ResetStartsEveryBlockAfresh :
    ({ State.reset with restarting := true } : State).powered = true
    ∧ ({ State.reset with restarting := true } : State).restarting = true := by decide

/-- Pages T0 to T7 with one not valid, or none, and a valid page S. -/
def pagesBut (p : Option (Fin 8)) : Store :=
  { State.reset.store with
    settingsPage := some factorySettings
    tablePages := vecOfFn fun q => if p = some q then none else some [] }

theorem witness_InvalidPagesGiveFactoryValues :
    (withStore State.reset.store).store.settingsPage = none
    ∧ ((pagesBut (some 0)).settingsPage.isSome = true ∧ (pagesBut (some 0)).tablePages[0] = none
      ∧ (pagesBut (some 0)).tablePages[1].isSome = true ∧ (pagesBut (some 0)).tablePages[7].isSome = true)
    ∧ (pagesBut (some 7)).tablePages[7] = none
    ∧ ((pagesBut none).tablePages[0].isSome = true ∧ (pagesBut none).tablePages[7].isSome = true) := by decide

theorem witness_PowerLossHoldsThePart :
    State.reset.powered = true ∧ State.reset.hold.powered = false
    ∧ (Instr.hello ≠ .powerOnReset ∧ ∀ i k, Instr.hello ≠ .switchRawChange i k) :=
  ⟨by decide, by decide, by decide, nofun⟩

theorem witness_FrameSpellsItsRequest :
    (Instr.setDemand 12 65535).wellFormed = true
    ∧ frameOf? (.setDemand 12 65535) = some ⟨0x11, [12, 255, 255]⟩ := by decide

theorem witness_WireBytesServeTheirRequest :
    (Instr.readChannel 10).wellFormed = true ∧ frameOf? (.readChannel 10) = some ⟨0x23, [10]⟩
    ∧ State.reset.restarting = false ∧ State.reset.link.receiver = .hunting
    ∧ State.reset.link.served = none := by decide

theorem witness_FirstFrameEndsLimp :
    frameOf? .hello = some ⟨0x01, []⟩ ∧ (withLink { startLink with limp := true }).powered = true
    ∧ (withLink { startLink with limp := true }).link.limp = true := by decide

theorem witness_LimpEntryReachesEveryBlock :
    State.reset.powered = true ∧ State.reset.link.limp = false ∧ State.reset.settings.linkTimeout ≠ 0 := by
  decide

/-- A receiver that waits for CHK after LEN 0 and KIND 1. -/
def awaitingCheck : Link := { startLink with receiver := .wantCheck 0 ⟨1, []⟩ }

theorem witness_FrameErrorsLeaveTheRestAlone :
    (State.reset.link.receiver = .hunting ∧ (0 : Byte) ≠ 0xC5)
    ∧ ((withLink { startLink with receiver := .wantLen }).link.receiver = .wantLen ∧ 48 < (49 : Byte).toNat)
    ∧ ((withLink awaitingCheck).link.receiver = .wantCheck 0 ⟨1, []⟩
      ∧ (0 : Byte) + 1 + byteSum [] + 0 ≠ 0) := by decide

theorem witness_ValidFrameIsServedOrWaits :
    ((withLink awaitingCheck).attentive ∧ (0 : Byte) + 1 + byteSum [] + 0xFF = 0)
    ∧ Frame.asks ⟨1, []⟩ = .request .hello
    ∧ (requestLength 0x23 = some 1 ∧ ([] : List Byte).length ≠ 1 ∧ requestLength 0x7E = none)
    ∧ ((withLink { awaitingCheck with served := some ⟨2, []⟩ }).link.served ≠ none
      ∧ (withLink { awaitingCheck with served := some ⟨2, []⟩ }).link.limp = false
      ∧ frameOf? .hello = some ⟨1, []⟩)
    ∧ ({ withLink { awaitingCheck with pendingFrame := some ⟨2, []⟩ } with restarting := true } : State).restarting
      = true := by decide

/-- HELLO's reply at the front while a frame waits as pending. -/
def handingOver (frame : Frame) : State :=
  withLink { startLink with
    served := some ⟨1, []⟩, pendingFrame := some frame, outbox := [.reply ⟨0x81, [0]⟩, .awaited] }

theorem witness_SentReplyFreesTheServedPlace :
    (withLink { startLink with outbox := [.awaited, .frameError .badCheck] }).link.outbox
      = List.replicate 1 .awaited ++ .frameError .badCheck :: []
    ∧ State.reset.link.outbox = List.replicate 0 .awaited
    ∧ (withLink { startLink with served := some ⟨1, []⟩, outbox := [.reply ⟨0x81, [0]⟩] }).link.pendingFrame = none
    ∧ ((handingOver ⟨8, []⟩).powered = true ∧ (handingOver ⟨8, []⟩).restarting = false
      ∧ (handingOver ⟨8, []⟩).link.outbox = .reply ⟨0x81, [0]⟩ :: ([] ++ .awaited :: [])
      ∧ (handingOver ⟨8, []⟩).link.pendingFrame = some ⟨8, []⟩ ∧ Frame.asks ⟨8, []⟩ = .request .readEvents
      ∧ (handingOver ⟨8, []⟩).link.limp = false)
    ∧ (requestLength 8 = some 0 ∧ ([7] : List Byte).length ≠ 0 ∧ requestLength 0x7E = none) := by decide

/-- The part after reset with a programming of page S in flight. -/
def flying : State := withStore { State.reset.store with programming := some ⟨.settings factorySettings, 0⟩ }

theorem witness_HelloRestartAndUnknownKind :
    State.reset.attentive ∧ State.reset.store.programming = none
    ∧ (flying.attentive ∧ flying.store.programming.isSome = true) ∧ requestLength 0x7E = none := by decide

theorem witness_ReadEventsReturnsAndClearsFlags :
    State.reset.attentive ∧ (State.reset.event .restarted).flag = true := by decide

theorem witness_AttentionSettingsAreTaken : State.reset.attentive ∧ State.reset.attnLow = true := by decide

theorem witness_SetDemandWritesTheLinkValue :
    State.reset.attentive ∧ State.reset.mode .head ≠ .switchOnly ∧ State.reset.mode .ign = .switchOnly := by
  decide

/-- The part after reset with a reservation on HEAD. -/
def reserved : State := { State.reset with reservation := some .head }

theorem witness_ReservationGuardsAConditionalWrite :
    reserved.attentive ∧ (reserved.mode .head ≠ .switchOnly ∧ reserved.reservation = some .head)
    ∧ (reserved.mode .side ≠ .switchOnly ∧ reserved.reservation ≠ some .side)
    ∧ reserved.mode .ign = .switchOnly := by decide

theorem witness_ReleaseAndModeRewriteTheFunction :
    State.reset.attentive ∧ State.reset.mode .head = .shared ∧ State.reset.mode .instr = .linkOnly
    ∧ State.reset.mode .stop = .switchOnly := by decide

/-- SW1, bound to SIDE with LEVEL, found near earth while it is INACTIVE. -/
def knobPulled : State := withInput 1 ⟨.earth, .inactive, 20⟩

theorem witness_LevelEdgeEvaluatesItsFunction :
    knobPulled.powered = true ∧ (knobPulled.binding 1).function = some .side
    ∧ (knobPulled.binding 1).action = .level
    ∧ (knobPulled.input 1).debounced ≠ (if knobPulled.raw 1 = true then .active else .inactive) := by decide

/-- SW8, bound to FAN with STEP, pressed from INACTIVE. -/
def stepPressed : State := withInput 8 ⟨.earth, .inactive, 20⟩

theorem witness_PressMovesItsFunction :
    ((stepPressed.binding 8).function = some .fan ∧ (stepPressed.binding 8).action ≠ .level
      ∧ (stepPressed.input 8).debounced = .inactive ∧ stepPressed.raw 8 = true)
    ∧ ((State.reset.binding 8).action ≠ .level ∧ (State.reset.input 8).debounced ≠ .inactive)
    ∧ (withInput 1 ⟨.earth, .active, 20⟩).raw 1 = true := by decide

theorem witness_BindingChangeIsNoEdge :
    (State.reset.attentive ∧ (State.reset.binding 0).polarity = .activeToEarth
      ∧ (State.reset.binding 0).function = some .ign ∧ (State.reset.binding 0).function ≠ some .fan)
    ∧ 5 ≤ ((withInput 0 ⟨.earth, .inactive, 5⟩).input 0).count
    ∧ ((withInput 0 ⟨.earth, .inactive, 4⟩).input 0).count < 5 := by decide

/-- Both sides flashing by HAZARD, in ON_PHASE. -/
def flashing : State :=
  { withValue .hazard 1 with flasher := { startFlasher with cadence := .onPhase, phaseLength := 333 } }

/-- CH6 OPEN-flagged with CH0 as its substitute, flashing by HAZARD. -/
def carried : State :=
  let s := flashing.setChannel 6 { startChannel with openFlag := true }
  { s with settings := { s.settings with
      channels := s.settings.channels.set 6 { factoryChannel 6 with substitute := some 0 } } }

/-- SIDE lit and INSTR at 400, CH12 OPEN-flagged with CH0 as its substitute. -/
def carriedDim : State :=
  let lit := (withValue .side 1).setFn .instr ⟨400, none, 400, false⟩
  let s := lit.setChannel 12 { startChannel with openFlag := true }
  { s with settings := { s.settings with
      channels := s.settings.channels.set 12 { factoryChannel 12 with substitute := some 0 } } }

theorem witness_CallsFollowTheMap :
    (flashing.carriesTo 1 6 = false ∧ (flashing.mapEntry 4).covers 6 = true
      ∧ flashing.roleActive (flashing.mapEntry 4).role = true)
    ∧ ((withValue .side 1).carriesTo 1 0 = false ∧ ((withValue .side 1).mapEntry 0).covers 0 = true
      ∧ (withValue .side 1).roleActive .side = true)
    ∧ (carried.carriesTo 6 0 = true ∧ carried.ownDemand 6 = .flash ∧ carried.composedDemand 0 = .flash)
    ∧ (carriedDim.carriesTo 12 0 = true ∧ carriedDim.ownDemand 12 = .steady 400
      ∧ carriedDim.ownDemand 0 = .steady 1000 ∧ carriedDim.composedDemand 0 = .steady 1000)
    ∧ (carriedDim.carriesTo 12 13 = false ∧ carriedDim.composedDemand 13 = .none) := by decide

/-- A measured supply with IGN 1 and a mean either side of the charge margin. -/
theorem witness_ViewsAndReadingsFollowTheirRules :
    let s : State := { withValue .ign 1 with
      supply := { startSupply with batMean := some 12000, dynMean := some 10999 } }
    s.chargeCondition = true ∧ s.storeCondition = true ∧ State.reset.chargeCondition = false
    ∧ currentReading 40000 50000 = 40000 ∧ voltageReading 12004 = 12000
    ∧ senderReading (.resistance 2400049) = 5000 := by decide

theorem witness_MapAndRoleTakeEffectAtOnce :
    State.reset.attentive ∧ (State.reset.mapEntry 13).enabled = false
    ∧ (State.reset.mapEntry 0).enabled = true ∧ (State.reset.mapEntry 0).role = .side
    ∧ (1 : Fin 16) ≤ 1 ∧ (1 : Fin 16) < 2 := by decide

theorem witness_ReadsAnswerWhatTheStateShows : State.reset.attentive := by decide

theorem witness_ChannelSettingsAreTakenInRange :
    State.reset.attentive ∧ (State.reset.channel 7).state = .off
    ∧ (withChannel 8 { startChannel with state := .on }).attentive
    ∧ ((withChannel 8 { startChannel with state := .on }).channel 8).state = .on
    ∧ (some (8 : Fin 16)) ≠ some 7 := by decide

theorem witness_ClearChannelUnlocksIt :
    (withChannel 3 { startChannel with state := .lockedOff, tripCount := 3 }).attentive := by decide

theorem witness_ActivationTimersMoveTheChannel :
    ((withChannel 0 { startChannel with state := .inrush }).channel 0).state = .inrush
    ∧ ((withChannel 0 { startChannel with state := .pullIn }).channel 0).state = .pullIn
    ∧ ((withChannel 0 { startChannel with state := .tripWait }).channel 0).state = .tripWait
    ∧ ((withChannel 0 { startChannel with state := .hold }).channel 0).state = .hold
    ∧ (State.reset.channel 0).state = .off := by decide

/-- CH0 in ON with a running low run, or with a running high run. -/
def lit (low high : Option Nat) : State :=
  withChannel 0 { startChannel with state := .on, lowRun := low, highRun := high }

theorem witness_OpenTestRunsOnQuietSamples :
    (lit (some 0) none).powered = true ∧ ((lit (some 0) none).channel 0).state = .on
    ∧ (lit (some 0) none).supply.state ≠ .crank
    ∧ currentReading 40000 140 < 150 ∧ 150 ≤ currentReading 40000 150
    ∧ currentReading 40000 10000 ≤ 10000
    ∧ ((lit (some 0) none).channel 0).lowRun ≠ none ∧ ((lit none (some 0)).channel 0).highRun ≠ none
    ∧ ((lit none (some 0)).channel 0).lowRun = none := by decide

theorem witness_TripStopsTheChannel :
    (lit none none).powered = true ∧ ((lit none none).channel 0).state = .on
    ∧ 10000 < currentReading 40000 10010 ∧ 30000 < currentReading 40000 30010
    ∧ 40000 ≤ currentReading 40000 90000
    ∧ ((withChannel 0 { startChannel with state := .inrush, tripCount := 1 }).channel 0).tripCount < 2
    ∧ 2 ≤ ((withChannel 0 { startChannel with state := .inrush, tripCount := 2 }).channel 0).tripCount := by
  decide

theorem witness_PhaseBoundaryTurnsThePhase :
    State.reset.flasher.cadence = .idle
    ∧ flashing.flasher.cadence ≠ .idle ∧ flashing.anySide = true ∧ 0 < flashing.settings.flashRate := by decide

/-- The left indicator on with its run-on timer at a figure. -/
def runningOn (t : Nat) : State :=
  let s := (withValue .ign 1).setFn .indL ⟨1, none, 1, false⟩
  { s with flasher := ⟨.onPhase, 0, 333, false, some t, none⟩ }

/-- One indicator, or both, at 11 s of run-on, the blocks having followed; the map has no enabled entry. -/
def overrunning (right : Option Nat) (s : State) : State :=
  { s with
    flasher := ⟨.onPhase, 0, 333, false, some 11000, right⟩
    settings := { s.settings with map := vecOfFn fun k => { s.mapEntry k with enabled := false } } }

def overrun : State := overrunning none ((withValue .ign 1).setFn .indL ⟨1, none, 1, false⟩)

def overrunBoth : State :=
  overrunning (some 11000) (((withValue .ign 1).setFn .indL ⟨1, none, 1, false⟩).setFn .indR ⟨1, none, 1, false⟩)

theorem witness_RunOnLimitCancelsItsSide :
    (runningOn 60000).powered = true ∧ (runningOn 60000).runOn .left ≠ none
    ∧ (runningOn 60000).runOn .right = none ∧ (runningOn 60000).attentive
    ∧ ((runningOn 9999).runOn .left).getD 0 < 10 * 1000
    ∧ ((runningOn 10000).throughIndicator .left = true ∧ ¬ ((runningOn 10000).runOn .left).getD 0 < 10 * 1000
      ∧ (runningOn 10000).throughIndicator .right = false)
    ∧ (overrun.attentive ∧ overrun.CallsFollowed ∧ overrun.ConditionsFollowed
      ∧ overrun.throughIndicator .left = true ∧ ¬ (overrun.runOn .left).getD 0 < 10 * 1000
      ∧ overrun.throughIndicator .right = false)
    ∧ (overrunBoth.attentive ∧ overrunBoth.CallsFollowed ∧ overrunBoth.ConditionsFollowed
      ∧ overrunBoth.throughIndicator .left = true ∧ ¬ (overrunBoth.runOn .left).getD 0 < 10 * 1000
      ∧ overrunBoth.throughIndicator .right = true ∧ ¬ (overrunBoth.runOn .right).getD 0 < 10 * 1000) := by decide

theorem witness_GaugeAndSenderSettingsAreTaken :
    State.reset.attentive ∧ (State.reset.gaugeConfig 3).binding = none
    ∧ (State.reset.gaugeConfig 0).binding ≠ none := by decide

theorem witness_SenderStateFollowsThreeReadings : State.reset.powered = true := by decide

theorem witness_LookupRunsThroughTheTable :
    0 < (⟨1, 5⟩ : Point).x ∧ increasing ([⟨0, 0⟩] ++ [⟨5, 9⟩]) = true ∧ (⟨5, 9⟩ : Point).x ≤ 5
    ∧ increasing ([] ++ ⟨0, 0⟩ :: ⟨5, 9⟩ :: []) = true ∧ (4 : Nat) < (⟨5, 9⟩ : Point).x := by decide

theorem witness_DampingApproachesTheTarget :
    1 ≤ 1 ∧ 256 ≤ 256 ∧ (0 : Nat) = 0 ∧ 0 < 1000 ∧ 1 ≤ 256 := by decide

theorem witness_CompensationFollowsTheLaw : 2999 < 3000 ∧ 3000 ≤ 3000 := by decide

/-- SN0 with a sample, in a state. -/
def measured (state : SenderState) : State := withSender 0 ⟨some 500, some .valid, 3, state⟩

theorem witness_GaugeUpdateRunsItsStages :
    (withSupply .crank 8000 .zero).supply.state = .crank
    ∧ (State.reset.supply.state ≠ .crank ∧ (State.reset.gaugeConfig 3).binding = none)
    ∧ ((State.reset.gaugeConfig 0).binding = some 0 ∧ (State.reset.sender 0).latest = none)
    ∧ (((measured .ok).sender 0).latest = some 500 ∧ ((measured .ok).sender 0).state = .ok)
    ∧ ((measured .open).sender 0).state ≠ .ok := by decide

theorem witness_DriverTripsAndWaits :
    ((withGauge 0 { startGauge with driver := .waiting }).gauge 0).driver = .waiting
    ∧ (State.reset.gauge 0).duty = 0
    ∧ (((withGauge 0 { startGauge with duty := 1 }).gauge 0).driver = .driving
      ∧ 0 < ((withGauge 0 { startGauge with duty := 1 }).gauge 0).duty)
    ∧ currentReading 1000 750 ≤ 750 ∧ 750 < currentReading 1000 760 := by decide

/-- FAN at a value, in every mode SHARED, on an ignition-fed fan or not. -/
def fanAt (v : Nat) (fed : Bool) : State :=
  let s := withModes .shared (withValue .fan v)
  { s with settings := { s.settings with fan := { s.settings.fan with ignitionFed := fed } } }

/-- SW0 bound to nothing, held ACTIVE and counting since 4 ms, while FAN is bound elsewhere. -/
def freeInput : State :=
  let s := (fanAt 2 false).setInput 0 ⟨.earth, .active, 4⟩
  { s with settings := { s.settings with
      bindings := s.settings.bindings.set 0 { s.binding 0 with function := none } } }

theorem witness_FanTakesItsDemand :
    ((fanAt 2 true).powered = true ∧ (fanAt 2 true).restarting = false ∧ (fanAt 2 true).link.served = none
      ∧ (fanAt 2 true).link.limp = false)
    ∧ ({ fanAt 2 true with link := { startLink with limp := true } } : State).link.limp = true
    ∧ (leaves (.setDemand 12 3) (fanAt 2 true) fun t => t.eff .fan == 3 && t.fan.settle == some 0) = true
    ∧ (leaves (.setDemand 12 0) (fanAt 2 true) fun t => t.eff .fan == 0) = true
    ∧ (leaves (.setDemand 0 1) (fanAt 2 true) fun t => t.eff .ign == 1 && t.fan.settle == some 0) = true
    ∧ (leaves (.setDemand 0 1) (fanAt 0 true) fun t => t.eff .ign == 1 && t.fan.settle == none) = true
    ∧ (leaves (.setDemand 0 1) (fanAt 2 false) fun t => t.eff .ign == 1 && t.fan.settle == none) = true
    ∧ ((freeInput.binding 0).function = none ∧ (freeInput.input 0).count < 5
      ∧ (freeInput.binding 8).function = some .fan)
    ∧ (leaves (.setInput 0 12 0 3 0 5) freeInput fun t => t.eff .fan == 3 && t.fan.settle == some 0) = true
    ∧ (Frame.asks ⟨0x11, [12, 0, 0]⟩ = .request (.setDemand 12 0)
      ∧ (handingOver ⟨0x11, [12, 0, 0]⟩).link.outbox = .reply ⟨0x81, [0]⟩ :: [.awaited]
      ∧ (handingOver ⟨0x11, [12, 0, 0]⟩).link.pendingFrame = some ⟨0x11, [12, 0, 0]⟩) := by decide

theorem witness_FanSettingsAreTaken : State.reset.attentive := by decide

theorem witness_FanTimersMoveTheFan :
    (startFan.state = .off ∧ ({ startFan with state := .run, dutyNow := 300 } : Fan).state = .run)
    ∧ (withFan { startFan with settle := some 1500 }).fan.settle ≠ none ∧ State.reset.fan.settle = none
    ∧ (withFan { startFan with state := .ramp }).fan.state = .ramp ∧ State.reset.fan.state ≠ .ramp
    ∧ (withFan { startFan with state := .stallWait }).fan.state = .stallWait
    ∧ State.reset.fan.state ≠ .stallWait := by decide

/-- A fan in RUN with a stall run and both open-test runs at zero ms. -/
def turning (stalls : Nat) : State :=
  withFan { startFan with
    state := .run, stallCount := stalls, stallRun := some 0, lowRun := some 0, highRun := some 0 }

theorem witness_FanSamplesTestTheMotor :
    (turning 1).powered = true ∧ (turning 1).fan.state = .run ∧ 25000 < currentReading 30000 25010
    ∧ currentReading 30000 25000 ≤ 25000 ∧ (turning 1).fan.stallRun ≠ none
    ∧ (turning 1).supply.state ≠ .crank ∧ (turning 1).fan.stallCount < 2 ∧ ¬ (turning 2).fan.stallCount < 2
    ∧ (turning 1).fan.lowRun ≠ none ∧ (turning 1).fan.highRun ≠ none
    ∧ State.reset.fan.stallRun = none ∧ State.reset.fan.lowRun = none ∧ State.reset.fan.highRun = none
    ∧ (currentReading 30000 200 = 200 ∧ currentReading 30000 190 < 200)
    ∧ (withFan { startFan with state := .run, dutyNow := 300 }).fan.dutyNow = 300
    ∧ (withFan { startFan with state := .ramp, dutyNow := 299 }).fan.dutyNow < 300 := by decide

theorem witness_SupplySettingsAreOrdered :
    State.reset.attentive ∧ 10500 < 11800 ∧ 9000 < 10000
    ∧ max 4000 (min 16000 4000) ≤ max 4000 (min 16000 4000) := by decide

theorem witness_SlotTakesSamplesAndMeans : State.reset.powered = true := by decide

theorem witness_SlotTakesOneTransition :
    State.reset.powered = true
    ∧ [State.reset.supply.timers.lean, State.reset.supply.timers.shed].all (fun t => t.slots < 100) = true := by
  decide

theorem witness_TimerExpiriesMoveTheSupply :
    ((withSupply .normal 11000 { SupplyTimers.zero with lean := going }).supply.timers.lean.started = true
      ∧ (withSupply .normal 11000 { SupplyTimers.zero with lean := going }).supply.state = .normal)
    ∧ (withSupply .normal 11000 { SupplyTimers.zero with budget := going }).supply.timers.budget.started = true
    ∧ (withSupply .lean 12200 { SupplyTimers.zero with recovery := going }).supply.timers.recovery.started = true
    ∧ (withSupply .lean 10000 { SupplyTimers.zero with shed := going }).supply.timers.shed.started = true
    ∧ (withSupply .shed 11000 { SupplyTimers.zero with unshed := going }).supply.timers.unshed.started = true
    ∧ (withSupply .crank 11000 { SupplyTimers.zero with crankExit := going }).supply.timers.crankExit.started = true
    ∧ (withSupply .crank 8000 { SupplyTimers.zero with crankLimit := going }).supply.timers.crankLimit.started = true
    ∧ State.reset.supply.timers.lean.started = false := by decide

theorem witness_StagingTakesPoints :
    State.reset.attentive ∧ 15 ≤ 15 ∧ State.reset.store.staging = none
    ∧ 16 ≤ (buffer 16 16).pointer ∧ (buffer 15 2).pointer < 16
    ∧ (withStore { State.reset.store with staging := some (buffer 15 2) }).attentive := by decide

/-- An open buffer of two points in a part that has a store supply, or has none. -/
def ready (st : Store) : State := { withSupply .normal 12000 .zero with store := st }

theorem witness_ProgrammingBeginsOnRequest :
    (ready { State.reset.store with staging := some (buffer 0 2) }).attentive
    ∧ (ready State.reset.store).storeCondition = true ∧ State.reset.storeCondition = false
    ∧ State.reset.store.staging = none ∧ (2 : Nat) ≤ (buffer 0 2).length ∧ (buffer 0 2).length < 3
    ∧ increasing ((buffer 0 2).slots.toList.take 2) = true
    ∧ increasing ((openStaging 0 [⟨5, 0⟩, ⟨5, 1⟩] 0).slots.toList.take 2) = false
    ∧ flying.store.programming.isSome = true ∧ State.reset.store.programming = none := by decide

theorem witness_ProgrammingEndsAsItReadsBack :
    (ready flying.store).powered = true ∧ (ready flying.store).storeCondition = true
    ∧ (ready flying.store).store.programming = some ⟨.settings factorySettings, 0⟩
    ∧ flying.storeCondition = false ∧ State.reset.store.programming = none := by decide

theorem witness_NumbersOutOfRangeAreRefused :
    State.reset.attentive
    ∧ [Instr.readDemand 13 0, .readDemand 0 2, .setDemand 13 0, .setDemandIf 13 0, .releaseDemand 13,
        .setFunction 13 0, .setFunction 0 3, .setInput 12 0 0 0 0 0, .setInput 0 13 0 0 0 0,
        .setInput 0 0 3 0 0 0, .setInput 0 0 0 0 2 0, .readInputs 12, .setMap 16 0 0 0 0, .setMap 0 15 0 0 0,
        .setMap 0 0 16 0 0, .setMap 0 0 0 16 0, .setMap 0 0 0 0 2, .readMap 16, .setRole 15 0,
        .setChannel 16 0 0 0 0 0 0 0 255, .setChannel 0 3 0 0 0 0 0 0 255, .setChannel 0 0 0 0 0 0 0 0 16,
        .readChannel 16, .clearChannel 16, .setEvent 16 0 0, .setEvent 0 2 0, .setGauge 4 255 0 1 0,
        .setGauge 0 4 0 1 0, .setGauge 0 255 2 1 0, .setGauge 0 255 0 1 3, .readGauge 4 0, .readGauge 0 2,
        .setGaugePosition 4 0, .setSender 4 0 0, .readSender 4, .setFan 0 0 0 0 0 0 0 2,
        .setSupply 2 0 0 0 0 0 0 0 0, .readSupply 2, .tableOpen 8 0, .tableOpen 0 16, .tableRead 8 0].all
      (fun c => (frameOf? c).isSome) = true := by decide

/-- A part with a command waiting: it steps, and it meets what every step keeps. -/
def waiting : State := { State.reset with pending := [.gaugeUpdate 3] }

theorem witness_EveryStepKeepsFunctionsEvaluated : waiting.Evaluated ∧ waiting.ValuesInRange := by decide

theorem witness_EveryStepLeavesNothingLagging : waiting.CallsFollowed ∧ waiting.ConditionsFollowed := by decide

theorem witness_EveryStepKeepsOutputsInStep :
    waiting.LockOffCounted ∧ waiting.fan.state = .off ∧ waiting.fan.dutyNow = 0 ∧ waiting.fanTarget = 0 := by
  decide

theorem witness_EveryStepKeepsTablesAndPages :
    waiting.TablesFit ∧ waiting.GaugesInRange ∧ waiting.store.programming = none
    ∧ waiting.restarting = false := by decide

theorem witness_EveryStepKeepsSupplyAndLinkInOrder :
    waiting.SupplyInOrder ∧ waiting.LinkInOrder ∧ (handingOver ⟨8, []⟩).LinkInOrder := by decide

/-- The step that these five witnesses take is a next state. -/
theorem witness_a_step_is_taken : ∃ t, step waiting = .next t := ⟨_, rfl⟩


/-! ### Figures of the spec -/

/-- The reply the command puts last on the link, as its payload. -/
def lastReply (t : State) : Option (List Byte) :=
  match t.link.outbox.getLast? with
  | some (.reply frame) => some frame.payload
  | _ => none

/-- No row of the table gives bits, so no word spells a command. -/
theorem test_no_word_spells_a_command : decodeTableWord 8 0x23 = none ∧ decodeTableWord 0 0 = none := by decide

/-- The example of chapter 11: the host asks for CH10 with C5 01 23 0A D2. -/
theorem test_wire_frame_of_read_channel : (⟨0x23, [0x0A]⟩ : Frame).wire = [0xC5, 0x01, 0x23, 0x0A, 0xD2] := by decide

/-- The same frame spells READ_CHANNEL of 10 (R176). -/
theorem test_frame_spells_read_channel : requestOf 0x23 [0x0A] = some (.readChannel 10) := by decide

/-- Its last byte serves the request: the reply is of kind 0xA3 with status OK, state OFF and 27 bytes (R163, R176). -/
theorem test_last_byte_serves_read_channel :
    leaves (.byteReceived 0xD2) (withLink { startLink with receiver := .wantCheck 1 ⟨0x23, [0x0A]⟩ }) (fun t =>
      t.link.served == some ⟨0x23, [0x0A]⟩
        && match t.link.outbox with
          | [.reply frame] => frame.kind == 0xA3 && frame.payload.take 2 == [0x00, 0x00] && frame.payload.length == 27
          | _ => false) = true := by decide

/-- A wrong check byte draws FRAME_ERROR with BAD_CHECK, code 1, and no request is served (R161, R177). -/
theorem test_bad_check_is_no_request :
    leaves (.byteReceived 0xD3) (withLink { startLink with receiver := .wantCheck 1 ⟨0x23, [0x0A]⟩ }) (fun t =>
      t.link.served == none && t.link.outbox == [.frameError .badCheck] && t.link.receiver == .hunting) = true := by
  decide

/-- The table of R72. -/
theorem test_half_periods :
    [roundHalfUp 30000 75, roundHalfUp 30000 (2 * 80), roundHalfUp 30000 90, roundHalfUp 30000 (2 * 90),
      roundHalfUp 30000 96, roundHalfUp 30000 (2 * 96), roundHalfUp 30000 (2 * 120)]
      = [400, 188, 333, 167, 313, 156, 125] := by decide

/-- R98: 2.5 becomes 3 and -2.5 becomes -3; stage 2 and stage 4 of the thermal fuel gauge of chapter 06. -/
theorem test_lookup_figures :
    roundHalfAway 5 2 = 3 ∧ roundHalfAway (-5) 2 = -3
    ∧ lookup [⟨330, 1000⟩, ⟨700, 750⟩, ⟨1150, 500⟩, ⟨1700, 250⟩, ⟨2400, 0⟩] 1300 = ⟨432, false, false⟩
    ∧ lookup [⟨0, 3000⟩, ⟨500, 6500⟩, ⟨1000, 10000⟩] 474 = ⟨6318, false, false⟩
    ∧ lookup [⟨330, 1000⟩, ⟨2400, 0⟩] 329 = ⟨1000, true, false⟩
    ∧ lookup [⟨330, 1000⟩, ⟨2400, 0⟩] 2401 = ⟨0, false, true⟩
    ∧ lookup [⟨330, 1000⟩, ⟨2400, 0⟩] 2400 = ⟨0, false, false⟩ := by decide

/-- R102: 37.5 becomes 37 and -37.5 becomes -37; stage 3 of chapter 06's example; the step of one that carries a
filtered position home. -/
theorem test_damping_figures :
    damped 0 600 16 = 37 ∧ damped 600 0 16 = 563 ∧ damped 480 432 32 = 474 ∧ damped 599 600 16 = 600
    ∧ damped 1 0 16 = 0 ∧ damped 0 1000 256 = 1000 := by decide

/-- R105's two figures; stage 5 of chapter 06's example under both laws, and at a low supply (R107). -/
theorem test_compensation_figures :
    compensated .magnetic 5000 (some 12500) = (400, false) ∧ compensated .magnetic 5000 (some 14000) = (357, false)
    ∧ compensated .thermal 6318 (some 13600) = (216, false)
    ∧ compensated .magnetic 6318 (some 13600) = (465, false)
    ∧ compensated .thermal 6318 (some 6000) = (1000, true)
    ∧ compensated .magnetic 6318 (some 6000) = (1000, true) := by decide

/-- The means of chapter 08's start: 11,725 at slot 1, 9025 at slot 5, 8350 at slot 6 (R134). -/
theorem test_means_of_a_start :
    meanOf (7000 :: List.replicate 7 12400) = 11725
    ∧ meanOf (List.replicate 5 7000 ++ List.replicate 3 12400) = 9025
    ∧ meanOf (List.replicate 6 7000 ++ List.replicate 2 12400) = 8350 := by decide

/-- Chapter 08's winter night: at 10 s below lean with the charge condition true, LEAN and SUPPLY_STATE with
detail 1 (R140). -/
theorem test_lean_timer_expiry :
    leaves .leanTimerExpiry (withSupply .normal 11650 { SupplyTimers.zero with lean := ⟨true, 0, 10⟩ })
      (fun t => t.supply.state == .lean && t.event .supplyState == ⟨true, 1⟩) = true := by decide

/-- Chapter 08's start, slot 6: CRANK entered, SUPPLY_STATE with detail 3, all timers at zero (R141, R145). -/
theorem test_slot_enters_crank :
    leaves (.sampleSlot 7000 0)
      { State.reset with supply := { startSupply with
          batSamples := List.replicate 5 7000 ++ List.replicate 3 12400, dynSamples := List.replicate 8 0 } }
      (fun t => t.supply.state == .crank && t.event .supplyState == ⟨true, 3⟩ && t.supply.batMean == some 8350
        && t.supply.timers == .zero && t.supply.lowSeen) = true := by decide

/-- What stands after power-on reset of a factory-fresh part (R21, R40, R82, R83, R149, R150, R152, R173): the factory
level of STORE_FAIL is above the threshold, so ATTN is low. -/
theorem test_reset_values :
    State.reset.settings.flashRate = 90 ∧ State.reset.settings.runOnLimit = 60
    ∧ State.reset.settings.supply.lean = 11800 ∧ State.reset.settings.linkTimeout = 2000
    ∧ State.reset.eff .instr = 1000 ∧ State.reset.eff .fan = 0
    ∧ State.reset.event .storeFail = ⟨true, 8⟩ ∧ State.reset.event .restarted = ⟨true, 0⟩
    ∧ State.reset.attnLow = true := by decide

/-- The seventh row of chapter 01's FAN example: the pressed pin starts the debounce count (R2), and at its end 3 + 1 modulo 4
is 0, with DEMAND_CHANGE and detail 12 (R6, R10, R15). -/
theorem test_fan_button_wraps :
    leaves (.switchRawChange 8 .earth)
      ((withValue .fan 3).setInput 8 ⟨.openCircuit, .inactive, 30⟩) (fun t => (t.input 8).count == 0) = true
    ∧ leaves (.debounceExpiry 8) ((withValue .fan 3).setInput 8 ⟨.earth, .inactive, 20⟩) (fun t =>
        t.fn .fan == ⟨0, none, 0, false⟩ && t.event .demandChange == ⟨true, 12⟩) = true := by decide

/-- The sixth row: a press from 2 drops a link value of 3 and leaves the effective value at 3, with no event. -/
theorem test_fan_press_drops_link_value :
    leaves (.debounceExpiry 8)
      ((State.reset.setFn .fan ⟨2, some 3, 3, false⟩).setInput 8 ⟨.earth, .inactive, 20⟩) (fun t =>
        t.fn .fan == ⟨3, none, 3, false⟩ && t.event .demandChange == ⟨false, 0⟩) = true := by decide

/-- The fifth row: SET_DEMAND(FAN, 9) is clamped to 3; the reply shows 3; no event (R11). -/
theorem test_set_demand_clamps :
    leaves (.setDemand 12 9) (withValue .fan 2) (fun t =>
      t.fn .fan == ⟨2, some 3, 3, false⟩ && t.event .demandChange == ⟨false, 0⟩
        && lastReply t == some [0, 3, 0, 3, 0]) = true := by decide

/-- Chapter 01's follow-me-home: the driver has moved SIDE, so the conditional write is NOT_STORED (R17, R18). -/
theorem test_conditional_write_not_stored :
    leaves (.setDemandIf 1 0) (withValue .side 1) (fun t =>
      t.fn .side == ⟨1, none, 1, false⟩ && lastReply t == some [0, 0, 0xFF, 0xFF, 1, 0]) = true := by decide

/-- R13's example: FAN SHARED with a link value of 2 and a switch value of 1 falls to 1 on SWITCH_ONLY. -/
theorem test_mode_change_drops_link_value :
    leaves (.setFunction 12 0) (State.reset.setFn .fan ⟨1, some 2, 2, false⟩) (fun t =>
      t.fn .fan == ⟨1, none, 1, false⟩) = true := by decide

/-- Level values are clamped to the function's range (R4): 7 on HEAD is 1, 2000 on INSTR is 1000. -/
theorem test_level_value_clamps :
    leaves (.setInput 9 2 0 7 0 20) State.reset (fun t => (t.binding 9).level == 1) = true
    ∧ leaves (.setInput 9 8 0 2000 0 20) State.reset (fun t => (t.binding 9).level == 1000) = true := by decide

/-- Chapter 03's bad window: 13,000 mA in ON trips CH2 to TRIP_WAIT with count 1 and LAMP_SHORT, detail 2 (R57). -/
theorem test_trip_waits :
    leaves (.channelSample 2 13000) (withChannel 2 { startChannel with state := .on }) (fun t =>
      (t.channel 2).state == .tripWait && (t.channel 2).tripCount == 1 && t.event .lampShort == ⟨true, 2⟩
        && t.event .channelLocked == ⟨false, 0⟩) = true := by decide

/-- The third trip locks it off, with CHANNEL_LOCKED and detail 2 (R57, R60). -/
theorem test_third_trip_locks :
    leaves (.channelSample 2 12500) (withChannel 2 { startChannel with state := .on, tripCount := 2 }) (fun t =>
      (t.channel 2).state == .lockedOff && (t.channel 2).tripCount == 3 && t.event .lampShort == ⟨true, 2⟩
        && t.event .channelLocked == ⟨true, 2⟩) = true := by decide

/-- A cold filament's 24,000 mA in INRUSH does not trip (chapter 03). -/
theorem test_inrush_current_is_let_be :
    leaves (.channelSample 2 24000)
      ((withModes .linkOnly (withValue .head 1)).setChannel 2 { startChannel with state := .inrush }) (fun t =>
        (t.channel 2).state == .inrush && (t.channel 2).tripCount == 0) = true := by decide

/-- Chapter 02's failed rear bulb: CH10 flashes, carries to CH8, and flash wins over the tail's steady demand (R34, R36,
R37). -/
theorem test_substitute_takes_the_flash :
    let s := ((withValue .indL 1).setFn .ign ⟨1, none, 1, false⟩).setFn .side ⟨1, none, 1, false⟩
    let s := s.setChannel 10 { startChannel with openFlag := true }
    let s : State := { s with settings := { s.settings with
      channels := s.settings.channels.set 10 { factoryChannel 10 with substitute := some 8 } } }
    s.ownDemand 10 = .flash ∧ s.ownDemand 8 = .steady 1000 ∧ s.composedDemand 8 = .flash
      ∧ s.receiving 8 = true := by decide

/-- Chapter 04's forgotten trafficator at 60 s: the indicator is cancelled, IND_TIMEOUT with detail 0, DEMAND_CHANGE
with detail 4, the cadence returns to IDLE (R14, R71, R77). -/
theorem test_run_on_cancels :
    leaves (.runOnExpiry .left) (runningOn 60000) (fun t =>
      t.fn .indL == ⟨1, none, 0, true⟩ && t.event .indTimeout == ⟨true, 0⟩ && t.event .demandChange == ⟨true, 4⟩
        && t.flasher.cadence == .idle && t.runOn .left == none) = true := by decide

/-- Chapter 04's rate change: 150 is clamped to 120 and a limit of 5 is taken as 10; the reply shows both (R79). -/
theorem test_set_flasher_clamps :
    leaves (.setFlasher 150 5) State.reset (fun t =>
      t.settings.flashRate == 120 && t.settings.runOnLimit == 10 && lastReply t == some [0, 120, 10, 0]) = true := by
  decide

/-- Chapter 05's lifting wiper, sample 7: the third HIGH opens the sender, GAUGE_FAULT with detail 16 (R87, R88). -/
theorem test_third_high_reading_opens :
    leaves (.senderSample 0 .broken) (withSender 0 ⟨some 5000, some .high, 2, .ok⟩) (fun t =>
      t.sender 0 == ⟨some 5000, some .high, 3, .open⟩ && t.event .gaugeFault == ⟨true, 16⟩) = true := by decide

/-- Sample 4: one VALID reading ends the run and changes no state; 130.46 ohms read as 130.5 (R84). -/
theorem test_valid_reading_ends_the_run :
    leaves (.senderSample 0 (.resistance 130460)) (withSender 0 ⟨some 5000, some .high, 2, .ok⟩) (fun t =>
      t.sender 0 == ⟨some 1305, some .valid, 1, .ok⟩ && t.event .gaugeFault == ⟨false, 0⟩) = true := by decide

/-- Chapter 07's button: the window's end moves the target step to 3 and the fan into RAMP at its first step, 100 (R122,
R124). -/
theorem test_settle_window_starts_the_ramp :
    leaves .settleWindowEnd
      ({ fanAt 3 false with fan := { startFan with settle := some 1500 } }) (fun t =>
        t.fan.targetStep == 3 && t.fan.state == .ramp && t.fan.dutyNow == 100 && t.fan.settle == none) = true := by
  decide

/-- R124: each 100 ms in RAMP raises duty now by the ramp step; the ramp timer is the elapsed time in RAMP (R120). -/
theorem test_ramp_step_keeps_the_time :
    leaves .fanRampStep
      { fanAt 3 false with fan := { startFan with
          state := .ramp, dutyNow := 200, targetStep := 3, rampTimer := 200, rampSteps := 1 } } (fun t =>
        t.fan.state == .ramp && t.fan.dutyNow == 300 && t.fan.rampTimer == 200 && t.fan.rampSteps == 2) = true := by
  decide

/-- R162: HELLO while a frame is served and another is pending: the held one is replaced, LINK_OVERRUN takes its KIND. -/
theorem test_request_waits_while_served :
    leaves .hello (handingOver ⟨8, []⟩) (fun t =>
      t.link.served == some ⟨1, []⟩ && t.link.pendingFrame == some ⟨1, []⟩
        && t.link.outbox == [.reply ⟨0x81, [0]⟩, .awaited] && t.event .linkOverrun == ⟨true, 8⟩) = true := by decide

/-- R62: CLEAR_CHANNEL on a locked channel; it is OFF, with its count at 0. -/
theorem test_clear_channel_unlocks :
    leaves (.clearChannel 3) (withChannel 3 { startChannel with state := .lockedOff, tripCount := 3 }) (fun t =>
      (t.channel 3).tripCount == 0 && (t.channel 3).state == .off) = true := by decide

/-- Chapter 07's blocked fan: the third stall locks it off, FAN_STALL and FAN_LOCKED with detail 0 (R127). -/
theorem test_third_stall_locks :
    leaves .fanStall
      { fanAt 2 false with fan := { startFan with
          state := .run, dutyNow := 700, targetStep := 2, stallRun := some 2000, stallCount := 2 } } (fun t =>
        t.fan.state == .stallLock && t.fan.dutyNow == 0 && t.fan.stallCount == 3
          && t.event .fanStall == ⟨true, 0⟩ && t.event .fanLocked == ⟨true, 0⟩) = true := by decide

/-- Chapter 09's upload: TABLE_OPEN(0, 0) fills the buffer from the factory table, pointer 0, length 2 (R153). -/
theorem test_table_open_fills_the_buffer :
    leaves (.tableOpen 0 0) State.reset (fun t =>
      match t.store.staging with
      | some b => b.pointer == 0 && b.length == 2 && b.slots.toList.take 2 == [⟨0, 0⟩, ⟨5000, 1000⟩]
      | none => false) = true := by decide

/-- A length beyond the buffer's is refused with BAD_ARG, code 4; the driver's starter ends a programming of T0 with
STORE_FAIL, detail 0, and the failure record of LOW_SUPPLY (R155, R156). -/
theorem test_commit_beyond_length_refused :
    leaves (.tableCommit 6) (ready { State.reset.store with staging := some (buffer 5 5) }) (fun t =>
      lastReply t == some [4] && t.store.staging == some (buffer 5 5)) = true := by decide

theorem test_crank_fails_a_programming :
    leaves (.sampleSlot 7000 0)
      { State.reset with
        store := { State.reset.store with programming := some ⟨.table 0 [⟨330, 1000⟩, ⟨2400, 0⟩], 5⟩ }
        supply := { startSupply with
          batSamples := List.replicate 5 7000 ++ List.replicate 3 12400, dynSamples := List.replicate 8 0 } }
      (fun t => t.store.programming == none && t.store.failure == some ⟨0, .lowSupply⟩
        && t.event .storeFail == ⟨true, 0⟩) = true := by decide

/-- READ_SUPPLY's reply has 48 payload bytes and READ_CHANNEL's 27 (R176). -/
theorem test_reply_lengths :
    leaves (.readSupply 0) State.reset (fun t => (lastReply t).map List.length == some 48) = true
    ∧ leaves (.readChannel 10) State.reset (fun t => (lastReply t).map List.length == some 27) = true := by decide

end Sys2Proof.Tests
end

section
/-! SUPPORT. The demand table along every step: which operations leave it alone, and what a write of a record must meet so
that the records stay evaluated (R9 to R14, R20) and in range (R4, R9). -/

namespace Sys2Proof.Machine

/-! ### The two invariants, function by function -/

/-- Every value of a record lies within the range of its function (R9). -/
def FnRecord.InRange (r : FnRecord) (f : Fn) : Prop :=
  r.switch ≤ f.maxValue ∧ r.effective ≤ f.maxValue ∧ ∀ v, r.link = some v → v ≤ f.maxValue

/-- The settings that an image being written carries have level values in range; a table's image has none. -/
def Image.bindingsFit : Image → Bool
  | .settings x => x.bindingsFit
  | .table _ _ => true

/-- Page S and a settings image in flight have level values in range (R4). -/
def Store.BindingsFit (st : Store) : Prop :=
  (∀ x, st.settingsPage = some x → x.bindingsFit = true)
  ∧ ∀ p, st.programming = some p → p.image.bindingsFit = true

theorem forall_fn_iff {P : Fin 13 → Prop} : (∀ i, P i) ↔ ∀ f : Fn, P f.idx :=
  ⟨fun h f => h f.idx, fun h i => by simpa using h (Fn.ofIdx i)⟩

theorem State.evaluated_iff (s : State) : s.Evaluated ↔
    (s.link.limp = false → ∀ f, (s.fn f).effective = modeEvaluation f (s.mode f) (s.fn f)) := by
  simp only [State.Evaluated, forall_fn_iff, Fn.ofIdx_idx, State.fn, State.mode]

theorem State.valuesInRange_iff (s : State) : s.ValuesInRange ↔
    (∀ f, (s.fn f).InRange f) ∧ s.settings.bindingsFit = true ∧ s.store.BindingsFit := by
  have named : s.ValuesInRange ↔ (∀ i : Fin 13, (s.functions[i]).switch ≤ (Fn.ofIdx i).maxValue
      ∧ (s.functions[i]).effective ≤ (Fn.ofIdx i).maxValue
      ∧ (s.functions[i]).link.all (fun v => decide (v ≤ (Fn.ofIdx i).maxValue)) = true)
      ∧ s.settings.bindingsFit = true ∧ s.store.settingsPage.all Settings.bindingsFit = true
      ∧ s.store.programming.all (fun p => p.image.bindingsFit) = true := Iff.rfl
  simp only [named, forall_fn_iff, Fn.ofIdx_idx, State.fn, FnRecord.InRange, Store.BindingsFit,
    Option.all_eq_true, decide_eq_true_eq]

/-- A step from one state to another keeps both invariants of the demand table. -/
def State.KeepsTable (s t : State) : Prop :=
  (s.Evaluated → t.Evaluated) ∧ (s.ValuesInRange → t.ValuesInRange)

theorem State.KeepsTable.refl (s : State) : s.KeepsTable s := ⟨id, id⟩

theorem State.KeepsTable.trans {s t u : State} (h : s.KeepsTable t) (k : t.KeepsTable u) : s.KeepsTable u :=
  ⟨k.1 ∘ h.1, k.2 ∘ h.2⟩

/-! ### Operations that leave the demand table alone -/

/-- What the two invariants read has not changed, but for the store, which still fits. -/
structure State.SameTable (s t : State) : Prop where
  functions : t.functions = s.functions
  modes : t.settings.modes = s.settings.modes
  bindings : t.settings.bindings = s.settings.bindings
  limp : t.link.limp = s.link.limp
  store : s.store.BindingsFit → t.store.BindingsFit

theorem State.SameTable.keeps {s t : State} (h : s.SameTable t) : s.KeepsTable t := by
  have fn : ∀ f, t.fn f = s.fn f := fun f => by simp only [State.fn, h.functions]
  have mode : ∀ f, t.mode f = s.mode f := fun f => by simp only [State.mode, h.modes]
  have fits : t.settings.bindingsFit = s.settings.bindingsFit := by simp only [Settings.bindingsFit, h.bindings]
  constructor
  · simp only [State.evaluated_iff, fn, mode, h.limp]; exact id
  · simp only [State.valuesInRange_iff, fn, fits]
    exact fun ⟨hf, hb, hs⟩ => ⟨hf, hb, h.store hs⟩

theorem State.SameTable.refl (s : State) : s.SameTable s := ⟨rfl, rfl, rfl, rfl, id⟩

theorem State.SameTable.trans {s t u : State} (h : s.SameTable t) (k : t.SameTable u) : s.SameTable u :=
  ⟨k.functions.trans h.functions, k.modes.trans h.modes, k.bindings.trans h.bindings, k.limp.trans h.limp,
    k.store ∘ h.store⟩

/-- A programming that ends without its page leaves the store fitting. -/
theorem Store.BindingsFit.emptied {st st' : Store} (h : st.BindingsFit) (hs : st'.settingsPage = st.settingsPage)
    (hp : st'.programming = none) : st'.BindingsFit :=
  ⟨fun x hx => h.1 x (hs ▸ hx), fun p hp' => by simp [hp] at hp'⟩

theorem State.storeFollow_bindingsFit (s : State) (h : s.store.BindingsFit) : s.storeFollow.store.BindingsFit := by
  unfold State.storeFollow
  split
  · split
    · exact h
    · exact h.emptied rfl rfl
  · exact h

theorem State.storeFollow_sameTable (s : State) : s.SameTable s.storeFollow where
  functions := by simp
  modes := by simp
  bindings := by simp
  limp := by simp
  store := s.storeFollow_bindingsFit

theorem State.react_sameTable (s : State) : s.SameTable s.react where
  functions := by simp
  modes := by simp
  bindings := by simp
  limp := by simp
  store h := by
    rw [State.react_store]
    exact State.storeFollow_bindingsFit _ (by simpa using h)

theorem State.reactFrom_sameTable (s before : State) : s.SameTable (s.reactFrom before) :=
  State.SameTable.trans ⟨by simp, by simp, by simp, by simp, by simp⟩ (State.react_sameTable (s.fanOnDemand before))

/-! ### Writes of a function's record -/

/-- One function's record, and perhaps its mode, is replaced: both invariants are kept where the new record is evaluated
and in range. -/
theorem State.keepsTable_of_write {s t : State} (f : Fn) (others : ∀ g, g ≠ f → t.fn g = s.fn g ∧ t.mode g = s.mode g)
    (limp : t.link.limp = s.link.limp) (bindings : t.settings.bindings = s.settings.bindings)
    (store : s.store.BindingsFit → t.store.BindingsFit)
    (evaluated : s.Evaluated → s.link.limp = false → (t.fn f).effective = modeEvaluation f (t.mode f) (t.fn f))
    (inRange : s.ValuesInRange → (t.fn f).InRange f) : s.KeepsTable t := by
  constructor
  · intro h
    rw [State.evaluated_iff, limp]
    intro hl g
    by_cases hg : g = f
    · subst hg; exact evaluated h hl
    · rw [(others g hg).1, (others g hg).2]; exact (State.evaluated_iff s).1 h hl g
  · intro h
    obtain ⟨hf, hb, hs⟩ := (State.valuesInRange_iff s).1 h
    refine (State.valuesInRange_iff t).2 ⟨fun g => ?_, ?_, store hs⟩
    · by_cases hg : g = f
      · subst hg; exact inRange h
      · rw [(others g hg).1]; exact hf g
    · simpa only [Settings.bindingsFit, bindings] using hb

theorem State.setFn_keepsTable (s : State) (f : Fn) (r : FnRecord)
    (evaluated : s.Evaluated → s.link.limp = false → r.effective = modeEvaluation f (s.mode f) r)
    (inRange : s.ValuesInRange → r.InRange f) : s.KeepsTable (s.setFn f r) := by
  refine State.keepsTable_of_write f (fun g hg => ⟨State.setFn_fn_of_ne _ _ hg.symm, rfl⟩) rfl rfl id ?_ ?_
  · intro h hl; rw [State.setFn_fn]; exact evaluated h hl
  · intro h; simpa using inRange h

theorem State.writeFn_keepsTable (s : State) (f : Fn) (r : FnRecord)
    (evaluated : s.Evaluated → s.link.limp = false → r.effective = modeEvaluation f (s.mode f) r)
    (inRange : s.ValuesInRange → r.InRange f) : s.KeepsTable (s.writeFn f r) :=
  have put := State.setFn_keepsTable s f r evaluated inRange
  have moved : (s.setFn f r).SameTable ((s.clearReservation f).setFn f r) := ⟨rfl, rfl, rfl, rfl, id⟩
  (put.trans moved.keeps).trans (State.reactFrom_sameTable _ _).keeps

/-! ### The records that are written -/

theorem Fn.restValue_le (f : Fn) : f.restValue ≤ f.maxValue := by cases f <;> decide

/-- The mode evaluation picks a value of the record, its rest value or 0, all in range (R9). -/
theorem modeEvaluation_le {f : Fn} {mode : SourceMode} {r : FnRecord} (hs : r.switch ≤ f.maxValue)
    (hl : ∀ v, r.link = some v → v ≤ f.maxValue) : modeEvaluation f mode r ≤ f.maxValue := by
  unfold modeEvaluation
  split
  · exact Nat.zero_le _
  · split
    · exact hs
    · exact hl _ (by assumption)
    · exact f.restValue_le
    · exact hl _ (by assumption)
    · exact hs

/-- A record whose effective value is set by the mode evaluation is in range where its switch and link values are. -/
theorem FnRecord.inRange_of_evaluation {f : Fn} {mode : SourceMode} {r k : FnRecord} (hs : r.switch ≤ f.maxValue)
    (hl : ∀ v, r.link = some v → v ≤ f.maxValue) (hk : k = { r with effective := modeEvaluation f mode r }) :
    k.InRange f := by
  subst hk; exact ⟨hs, modeEvaluation_le hs hl, hl⟩

/-- The mode evaluation does not read the effective value. -/
theorem modeEvaluation_effective (f : Fn) (mode : SourceMode) (r : FnRecord) (v : Nat) :
    modeEvaluation f mode { r with effective := v } = modeEvaluation f mode r := rfl

/-- A switch value change leaves the record evaluated under the mode it was made under (R10). -/
theorem movedRecord_evaluated (f : Fn) (mode : SourceMode) (r : FnRecord) (value : Nat)
    (h : r.effective = modeEvaluation f mode r) :
    (movedRecord f mode r value).effective = modeEvaluation f mode (movedRecord f mode r value) := by
  obtain ⟨switch, link, effective, latch⟩ := r
  cases mode <;> cases latch <;> cases link <;> simp_all [movedRecord, modeEvaluation]

theorem movedRecord_inRange (f : Fn) (mode : SourceMode) (r : FnRecord) (value : Nat) (h : r.InRange f)
    (hv : value ≤ f.maxValue) : (movedRecord f mode r value).InRange f := by
  obtain ⟨hs, he, hl⟩ := h
  cases mode
  case switchOnly => exact ⟨hv, hv, hl⟩
  case shared => exact ⟨hv, hv, by simp [movedRecord]⟩
  case linkOnly =>
    have left : r.link.getD f.restValue ≤ f.maxValue := by
      cases hr : r.link with
      | none => exact f.restValue_le
      | some v => exact hl v hr
    by_cases latched : r.latch = true
    · simpa [movedRecord, latched, FnRecord.InRange] using ⟨hv, left, hl⟩
    · simpa [movedRecord, latched, FnRecord.InRange] using ⟨hv, he, hl⟩

/-- Finding a switch value, said once: nothing, the switch value alone, or the written record of R10. -/
theorem State.switchTo_cases (s : State) (f : Fn) (value : Nat) :
    (value = (s.fn f).switch ∧ s.switchTo f value = s)
    ∨ (value ≠ (s.fn f).switch ∧ s.behaves f = .linkOnly ∧ (s.fn f).latch = false
      ∧ s.switchTo f value = s.setFn f (movedRecord f (s.behaves f) (s.fn f) value))
    ∨ (value ≠ (s.fn f).switch ∧ ¬ (s.behaves f = .linkOnly ∧ (s.fn f).latch = false)
      ∧ s.switchTo f value = s.writeFn f (movedRecord f (s.behaves f) (s.fn f) value)) := by
  unfold State.switchTo
  rw [switchRecord_eq]
  by_cases hv : value = (s.fn f).switch
  · exact .inl ⟨hv, if_pos hv⟩
  · by_cases hm : s.behaves f = .linkOnly <;> cases hl : (s.fn f).latch <;> simp [hv, hm]

theorem State.switchTo_keepsTable (s : State) (f : Fn) (value : Nat) (hv : s.ValuesInRange → value ≤ f.maxValue) :
    s.KeepsTable (s.switchTo f value) := by
  have evaluated : s.Evaluated → s.link.limp = false →
      (movedRecord f (s.behaves f) (s.fn f) value).effective
        = modeEvaluation f (s.mode f) (movedRecord f (s.behaves f) (s.fn f) value) := by
    intro h hl
    have hb : s.behaves f = s.mode f := by simp [State.behaves, hl]
    rw [hb]
    exact movedRecord_evaluated _ _ _ _ ((State.evaluated_iff s).1 h hl f)
  have inRange : s.ValuesInRange → (movedRecord f (s.behaves f) (s.fn f) value).InRange f := fun h =>
    movedRecord_inRange _ _ _ _ (((State.valuesInRange_iff s).1 h).1 f) (hv h)
  obtain ⟨-, h⟩ | ⟨-, -, -, h⟩ | ⟨-, -, h⟩ := s.switchTo_cases f value
  · rw [h]; exact .refl s
  · rw [h]; exact s.setFn_keepsTable f _ evaluated inRange
  · rw [h]; exact s.writeFn_keepsTable f _ evaluated inRange

/-! ### LEVEL evaluations -/

/-- The largest of a list and a start value: an upper bound that is one of them. -/
theorem foldl_max_spec (l : List Nat) (a : Nat) :
    a ≤ l.foldl max a ∧ (∀ x ∈ l, x ≤ l.foldl max a) ∧ (l.foldl max a = a ∨ l.foldl max a ∈ l) := by
  induction l generalizing a with
  | nil => simp
  | cons b l ih =>
    obtain ⟨hab, hl, hm⟩ := ih (max a b)
    simp only [List.foldl_cons, List.mem_cons, forall_eq_or_imp]
    refine ⟨by omega, ⟨by omega, hl⟩, ?_⟩
    obtain hm | hm := hm
    · rcases Nat.le_total a b with h | h <;> simp_all
    · exact .inr (.inr hm)

theorem State.contributes_iff (s : State) (f : Fn) (j : Fin 12) : s.contributes f j = true ↔
    (s.binding j).function = some f ∧ (s.binding j).action = .level ∧ (s.input j).debounced = .active := by
  simp [State.contributes, and_assoc]

/-- The LEVEL evaluation over all inputs but one, or over all, is the largest level value of those (R5). -/
theorem State.levelValue_largest (s : State) (f : Fn) (without : Option (Fin 12)) (among : Fin 12 → Bool)
    (h : ∀ j, among j = true ↔ without ≠ some j) : s.largestLevel f without (s.levelValue f among) := by
  obtain ⟨-, upper, found⟩ := foldl_max_spec
    (((List.finRange 12).filter fun i => among i && s.contributes f i).map fun i => (s.binding i).level) 0
  simp only [List.mem_map, List.mem_filter, List.mem_finRange, true_and, Bool.and_eq_true, h, s.contributes_iff,
    and_assoc] at upper found
  exact ⟨fun j hj hf ha hd => upper _ ⟨j, hj, hf, ha, hd, rfl⟩, found⟩

theorem State.binding_level_le {s : State} {f : Fn} (hb : s.settings.bindingsFit = true) (j : Fin 12)
    (hf : (s.binding j).function = some f) : (s.binding j).level ≤ f.maxValue := by
  have fits : (s.binding j).fits = true := List.all_eq_true.1 hb _ (by simp [State.binding])
  simpa [Binding.fits, hf] using fits

/-- With the level values in range, so is a LEVEL evaluation. -/
theorem State.largestLevel_le {s : State} {f : Fn} {without : Option (Fin 12)} {value : Nat}
    (h : s.largestLevel f without value) (hb : s.settings.bindingsFit = true) : value ≤ f.maxValue := by
  obtain rfl | ⟨j, -, hf, -, -, rfl⟩ := h.2
  · exact Nat.zero_le _
  · exact State.binding_level_le hb j hf

/-! ### Inputs: debouncing and bindings -/

@[simp] theorem State.setInput_fn (s : State) (i : Fin 12) (x : Input) (f : Fn) : (s.setInput i x).fn f = s.fn f := rfl

@[simp] theorem State.setInput_binding (s : State) (i j : Fin 12) (x : Input) :
    (s.setInput i x).binding j = s.binding j := rfl

/-- What taking a debounced state does, said once: nothing where the input holds it; the state alone for an unbound
input and for a TOGGLE or STEP that is not pressed; otherwise the finding of a switch value (R3, R5, R6). -/
theorem State.debounceTo_cases (s : State) (i : Fin 12) (value : Debounced) :
    let t := s.setInput i { s.input i with debounced := value }
    ((s.input i).debounced = value ∧ s.debounceTo i value = s)
    ∨ ((s.input i).debounced ≠ value
      ∧ ((s.binding i).function = none ∨ ((s.binding i).action ≠ .level
        ∧ ¬ ((s.input i).debounced = .inactive ∧ value = .active)))
      ∧ s.debounceTo i value = t)
    ∨ (∃ f, (s.input i).debounced ≠ value ∧ (s.binding i).function = some f ∧ (s.binding i).action = .level
      ∧ s.debounceTo i value = t.switchByEdge f (t.levelEvaluation f))
    ∨ (∃ f, (s.binding i).function = some f ∧ (s.binding i).action ≠ .level
      ∧ (s.input i).debounced = .inactive ∧ value = .active
      ∧ s.debounceTo i value = t.switchByEdge f (pressedValue f (s.binding i) (s.fn f).switch)) := by
  intro t
  unfold State.debounceTo
  by_cases held : (s.input i).debounced = value
  · exact .inl ⟨held, if_pos held⟩
  · cases hf : (s.binding i).function with
    | none => exact .inr (.inl ⟨held, .inl rfl, by simp [held, t]⟩)
    | some f =>
      by_cases level : (s.binding i).action = .level
      · exact .inr (.inr (.inl ⟨f, held, rfl, level, by simp [held, level, t]⟩))
      · by_cases press : (s.input i).debounced = .inactive ∧ value = .active
        · obtain ⟨was, now⟩ := press
          exact .inr (.inr (.inr ⟨f, rfl, level, was, now, by simp [was, now, level, t]⟩))
        · exact .inr (.inl ⟨held, .inr ⟨level, press⟩, by simp [held, level, press, t]⟩)

theorem State.setInput_sameTable (s : State) (i : Fin 12) (x : Input) : s.SameTable (s.setInput i x) :=
  ⟨rfl, rfl, rfl, rfl, id⟩

theorem State.raiseIfChanged_sameTable (s before : State) (f : Fn) : s.SameTable (s.raiseIfChanged before f) :=
  ⟨by simp, by simp, by simp, by simp, by simp⟩

theorem State.raise_sameTable (s : State) (e : Event) (detail : Nat) : s.SameTable (s.raise e detail) :=
  ⟨rfl, rfl, rfl, rfl, id⟩

theorem State.switchByEdge_keepsTable (s : State) (f : Fn) (value : Nat)
    (hv : s.ValuesInRange → value ≤ f.maxValue) : s.KeepsTable (s.switchByEdge f value) :=
  (s.switchTo_keepsTable f value hv).trans (State.raiseIfChanged_sameTable _ _ _).keeps

/-- A LEVEL evaluation is in range where the level values are. -/
theorem State.levelValue_le {s : State} (h : s.ValuesInRange) (f : Fn) (without : Option (Fin 12))
    (among : Fin 12 → Bool) (ha : ∀ j, among j = true ↔ without ≠ some j) : s.levelValue f among ≤ f.maxValue :=
  State.largestLevel_le (s.levelValue_largest f without among ha) ((State.valuesInRange_iff s).1 h).2.1

theorem State.levelEvaluation_le {s : State} (h : s.ValuesInRange) (f : Fn) : s.levelEvaluation f ≤ f.maxValue :=
  State.levelValue_le h f none _ (by simp)

/-- A press leaves the switch value in range: 0, the level value, or the next step (R6). -/
theorem pressedValue_le {f : Fn} {b : Binding} {switch : Nat} (hb : b.level ≤ f.maxValue)
    (hs : switch ≤ f.maxValue) : pressedValue f b switch ≤ f.maxValue := by
  unfold pressedValue
  split
  · split
    · exact hb
    · exact Nat.zero_le _
  · exact Nat.le_of_lt_succ (Nat.mod_lt _ (Nat.succ_pos _))
  · exact hs

theorem State.debounceTo_keepsTable (s : State) (i : Fin 12) (value : Debounced) :
    s.KeepsTable (s.debounceTo i value) := by
  have put := (s.setInput_sameTable i { s.input i with debounced := value }).keeps
  obtain ⟨-, h⟩ | ⟨-, -, h⟩ | ⟨f, -, -, -, h⟩ | ⟨f, hf, -, -, -, h⟩ := s.debounceTo_cases i value
  · rw [h]; exact .refl s
  · rw [h]; exact put
  · rw [h]; exact put.trans (State.switchByEdge_keepsTable _ _ _ fun hv => State.levelEvaluation_le hv f)
  · rw [h]
    refine put.trans (State.switchByEdge_keepsTable _ _ _ fun hv => ?_)
    obtain ⟨values, levels, -⟩ := (State.valuesInRange_iff _).1 hv
    exact pressedValue_le (State.binding_level_le levels i hf) (values f).1

/-- The debounce time has passed at an input: its count shows it, and it settles (R2). -/
def State.expireDebounce (s : State) (i : Fin 12) : State :=
  (s.setInput i { s.input i with count := max (s.input i).count (s.binding i).debounce }).settleInput i

/-- DEBOUNCE_EXPIRY in a running part. -/
theorem exec_debounceExpiry {s : State} (h : s.powered = true) (i : Fin 12) :
    exec (.debounceExpiry i) s = .next (s.expireDebounce i) := by
  simp [exec, execDebounceExpiry, State.whenPowered, h, State.expireDebounce]

theorem State.expireDebounce_keepsTable (s : State) (i : Fin 12) : s.KeepsTable (s.expireDebounce i) :=
  (s.setInput_sameTable i _).keeps.trans (State.debounceTo_keepsTable _ _ _)

/-- A binding whose level value is in range may replace any other. -/
theorem State.replaceBinding_keepsTable (s : State) (i : Fin 12) (b : Binding) (hb : b.fits = true) :
    s.KeepsTable (s.replaceBinding i b) := by
  have put : s.KeepsTable { s with settings := { s.settings with bindings := s.settings.bindings.set i b } } := by
    refine ⟨id, fun h => ?_⟩
    obtain ⟨values, levels, store⟩ := (State.valuesInRange_iff s).1 h
    refine (State.valuesInRange_iff _).2 ⟨values, ?_, store⟩
    simp only [Settings.bindingsFit, List.all_eq_true, Vector.mem_toList_iff] at levels ⊢
    intro x hx
    obtain hx | rfl := Vector.mem_or_eq_of_mem_set hx
    · exact levels x hx
    · exact hb
  unfold State.replaceBinding
  dsimp only
  split
  · exact put
  · exact put.trans (State.setInput_sameTable _ _ _).keeps

theorem State.leaveFunction_keepsTable (s : State) (i : Fin 12) (old : Binding) :
    s.KeepsTable (s.leaveFunction i old) := by
  unfold State.leaveFunction
  split
  · exact s.switchTo_keepsTable _ _ fun h => State.levelValue_le h _ (some i) _ fun j => by
      rw [bne_iff_ne, ne_eq, ne_eq, Option.some_inj, eq_comm]
  · exact .refl s

theorem State.joinFunction_keepsTable (s : State) (b : Binding) (boundBefore : Fn → Bool) :
    s.KeepsTable (s.joinFunction b boundBefore) := by
  unfold State.joinFunction
  split
  · exact .refl s
  · rename_i g _
    have opened : s.KeepsTable (if boundBefore g = true then s else s.switchTo g 0) := by
      split
      · exact .refl s
      · exact s.switchTo_keepsTable _ _ fun _ => Nat.zero_le _
    dsimp only
    split
    · exact opened.trans (State.switchTo_keepsTable _ _ _ fun h => State.levelEvaluation_le h g)
    · exact opened

theorem State.restUnbound_keepsTable (s : State) (old : Binding) : s.KeepsTable (s.restUnbound old) := by
  unfold State.restUnbound
  split
  · split
    · exact .refl s
    · exact s.switchTo_keepsTable _ _ fun _ => Fn.restValue_le _
  · exact .refl s

theorem State.bindInput_keepsTable (s : State) (i : Fin 12) (b : Binding) (hb : b.fits = true) :
    s.KeepsTable (s.bindInput i b) := by
  have settled : ∀ u : State, u.KeepsTable (u.settleIfDue i) := fun u => by
    unfold State.settleIfDue
    split
    · exact State.debounceTo_keepsTable _ _ _
    · exact .refl u
  exact ((((s.replaceBinding_keepsTable i b hb).trans (State.leaveFunction_keepsTable _ _ _)).trans
    (State.joinFunction_keepsTable _ _ _)).trans (State.restUnbound_keepsTable _ _)).trans (settled _)

/-- The binding SET_INPUT asks for has its level value clamped into range (R4). -/
theorem bindingOf?_fits {function action level polarity debounce : Nat} {b : Binding}
    (h : bindingOf? function action level polarity debounce = some b) : b.fits = true := by
  unfold bindingOf? at h
  split at h
  · rename_i f _ _ _ _ _
    obtain rfl := Option.some.inj h
    cases f <;> simp [Binding.fits]
  · cases h

/-- The cancel latch of a side's indicator is set (R14), with the events that go with it (R15, R77). -/
theorem State.cancelSide_keepsTable (s : State) (side : Side) : s.KeepsTable (s.cancelSide side) := by
  have write := s.writeFn_keepsTable (indicatorFn side) (cancelledRecord (s.fn (indicatorFn side)))
    (fun _ _ => by simp [cancelledRecord, modeEvaluation])
    (fun h => ⟨(((State.valuesInRange_iff s).1 h).1 _).1, Nat.zero_le _, by simp [cancelledRecord]⟩)
  unfold State.cancelSide
  exact (write.trans (State.raiseIfChanged_sameTable _ _ _).keeps).trans (State.raise_sameTable _ _ _).keeps

theorem State.expireIfDue_keepsTable (s : State) (side : Side) : s.KeepsTable (s.expireIfDue side) := by
  unfold State.expireIfDue
  split
  · split
    · exact s.cancelSide_keepsTable side
    · exact .refl s
  · exact .refl s

/-! ### Taking a request -/

@[simp] theorem refuse_state (status : Status) (s : State) : (refuse status s).1 = s := rfl

@[simp] theorem accept_state (s : State) (fields : List Byte) : (accept s fields).1 = s := rfl

theorem function?_lt {n : Nat} (h : 13 ≤ n) : function? n = none := by
  simp [function?, index?, Nat.not_lt.2 h]

/-- A write from the link leaves a record that is evaluated in any mode but SWITCH_ONLY, and in range (R11). -/
theorem State.linkWrite_keepsTable (s : State) (f : Fn) (value : Nat) (h : s.mode f ≠ .switchOnly) :
    s.KeepsTable (s.linkWrite f value) := by
  refine s.writeFn_keepsTable f _ (fun _ _ => ?_) (fun hv => ?_)
  · cases hm : s.mode f <;> simp_all [linkedRecord, modeEvaluation]
  · exact ⟨(((State.valuesInRange_iff s).1 hv).1 f).1, Nat.min_le_right _ _, by simp [linkedRecord]⟩

theorem State.release_keepsTable (s : State) (f : Fn) :
    s.KeepsTable (s.writeFn f (releasedRecord f (s.mode f) (s.fn f))) :=
  s.writeFn_keepsTable f _ (fun _ _ => rfl) fun h =>
    FnRecord.inRange_of_evaluation (r := { s.fn f with link := none, latch := false })
      (((State.valuesInRange_iff s).1 h).1 f).1 (by simp) rfl

@[simp] theorem State.withMode_mode (s : State) (f : Fn) (mode : SourceMode) : (s.withMode f mode).mode f = mode := by
  simp [State.mode]

theorem State.withMode_mode_of_ne (s : State) {f g : Fn} (mode : SourceMode) (h : f ≠ g) :
    (s.withMode f mode).mode g = s.mode g :=
  vector_set_getElem_of_ne _ _ _ _ (Fn.idx_ne h)

/-- SET_FUNCTION's change of the mode and of the record together keeps the invariants; the change of the mode alone need
not (R13). -/
theorem State.remode_keepsTable (s : State) (f : Fn) (mode : SourceMode) :
    s.KeepsTable ((s.withMode f mode).writeFn f (remodedRecord f mode (s.fn f))) := by
  have put : s.KeepsTable ((s.withMode f mode).setFn f (remodedRecord f mode (s.fn f))) := by
    refine State.keepsTable_of_write f (fun g hg => ⟨State.setFn_fn_of_ne _ _ hg.symm, ?_⟩) rfl rfl id ?_ ?_
    · exact s.withMode_mode_of_ne mode hg.symm
    · intro _ _
      have m : ((s.withMode f mode).setFn f (remodedRecord f mode (s.fn f))).mode f = mode := s.withMode_mode f mode
      rw [State.setFn_fn, m]
      rfl
    · intro h
      obtain ⟨switch, -, link⟩ := ((State.valuesInRange_iff s).1 h).1 f
      rw [State.setFn_fn]
      refine FnRecord.inRange_of_evaluation
        (r := { s.fn f with link := if mode = SourceMode.switchOnly then none else (s.fn f).link }) switch
        (fun v hv => link v ?_) rfl
      by_contra hn
      by_cases hm : mode = .switchOnly <;> simp_all
  have moved : ((s.withMode f mode).setFn f (remodedRecord f mode (s.fn f))).SameTable
      (((s.withMode f mode).clearReservation f).setFn f (remodedRecord f mode (s.fn f))) := ⟨rfl, rfl, rfl, rfl, id⟩
  exact (put.trans moved.keeps).trans (State.reactFrom_sameTable _ _).keeps

/-- A programming begins: the image's page is no longer valid, and the image is in flight (R151). -/
theorem State.startProgramming_keepsTable (s : State) (image : Image)
    (h : s.settings.bindingsFit = true → image.bindingsFit = true) : s.KeepsTable (s.startProgramming image) := by
  have begun : s.KeepsTable (s.beginProgramming image) := by
    refine ⟨id, fun hv => ?_⟩
    obtain ⟨values, levels, page, -⟩ := (State.valuesInRange_iff s).1 hv
    refine (State.valuesInRange_iff _).2 ⟨values, levels, ?_, ?_⟩
    · cases image with
      | table p points => exact page
      | settings x => simp [State.beginProgramming, Store.clearMark]
    · rintro p hp
      obtain rfl := Option.some.inj hp
      exact h levels
  exact begun.trans (State.storeFollow_sameTable _).keeps

theorem State.reserve_sameTable (s : State) (r : Option Fn) : s.SameTable { s with reservation := r } :=
  ⟨rfl, rfl, rfl, rfl, id⟩

theorem State.fanOnFeed_sameTable (s : State) (before : Bool) : s.SameTable (s.fanOnFeed before) := by
  have started : s.SameTable s.startSettle := ⟨by simp, by simp, by simp, by simp, by simp⟩
  unfold State.fanOnFeed
  dsimp only
  repeat' split
  · exact .refl s
  · exact ⟨rfl, rfl, rfl, rfl, id⟩
  · exact .refl s
  · exact started

theorem State.settleWindowJudged_sameTable (s : State) : s.SameTable s.settleWindowJudged := by
  unfold State.settleWindowJudged
  repeat' split
  · exact ⟨rfl, rfl, rfl, rfl, id⟩
  · exact .refl s
  · exact .refl s

theorem State.changeFan_sameTable (s : State) (cfg : FanConfig) : s.SameTable (s.changeFan cfg) :=
  have put : s.SameTable { s with settings := { s.settings with fan := cfg } } := ⟨rfl, rfl, rfl, rfl, id⟩
  ((put.trans (State.fanOnFeed_sameTable _ _)).trans (State.settleWindowJudged_sameTable _)).trans
    (State.react_sameTable _)

theorem State.changeFlasher_keepsTable (s : State) (rate limit : Nat) : s.KeepsTable (s.changeFlasher rate limit) := by
  have put : s.SameTable { s with settings := { s.settings with flashRate := rate, runOnLimit := limit } } :=
    ⟨rfl, rfl, rfl, rfl, id⟩
  unfold State.changeFlasher
  exact ((put.trans (State.react_sameTable _)).keeps.trans (State.expireIfDue_keepsTable _ _)).trans
    (State.expireIfDue_keepsTable _ _)

/-- Taking a request keeps the invariants of the demand table. -/
theorem takeRequest_keepsTable (i : Instr) (take : State → State × Reply) (h : takeRequest i = some take) (s : State) :
    s.KeepsTable (take s).1 := by
  have left : ∀ {t u : State}, t.SameTable u → t.KeepsTable u := State.SameTable.keeps
  have settles : ∀ {t : State}, s.SameTable t → s.KeepsTable t.react := fun ht =>
    (ht.trans (State.react_sameTable _)).keeps
  cases i <;> simp only [takeRequest, reduceCtorEq, Option.some.injEq] at h <;> subst h
  case hello => exact .refl s
  case restart => unfold takeRestart; split <;> exact left ⟨rfl, rfl, rfl, rfl, id⟩
  case readEvents => exact left ⟨rfl, rfl, rfl, rfl, id⟩
  case setEvent => unfold takeSetEvent; split <;> exact left ⟨rfl, rfl, rfl, rfl, id⟩
  case setAttnLevel => exact left ⟨rfl, rfl, rfl, rfl, id⟩
  case setLinkTimeout => exact left ⟨rfl, rfl, rfl, rfl, id⟩
  case readDemand =>
    unfold takeReadDemand
    split
    · dsimp only [accept_state]; split <;> exact left ⟨rfl, rfl, rfl, rfl, id⟩
    · exact .refl s
  case setDemand =>
    unfold takeSetDemand
    repeat' split
    · exact .refl s
    · exact .refl s
    · exact s.linkWrite_keepsTable _ _ (by assumption)
  case setDemandIf =>
    unfold takeSetDemandIf
    repeat' split
    · exact .refl s
    · exact .refl s
    · exact (s.linkWrite_keepsTable _ _ (by assumption)).trans (State.reserve_sameTable _ none).keeps
    · exact left ⟨rfl, rfl, rfl, rfl, id⟩
  case releaseDemand =>
    unfold takeReleaseDemand
    repeat' split
    · exact .refl s
    · exact .refl s
    · exact s.release_keepsTable _
  case setFunction =>
    unfold takeSetFunction
    split
    · exact s.remode_keepsTable _ _
    · exact .refl s
  case setInput =>
    unfold takeSetInput
    split
    · exact s.bindInput_keepsTable _ _ (bindingOf?_fits (by assumption))
    · exact .refl s
  case readInputs => unfold takeReadInputs; split <;> exact .refl s
  case setMap =>
    unfold takeSetMap
    split
    · dsimp only
      repeat' split
      · exact .refl s
      · exact .refl s
      · exact settles ⟨rfl, rfl, rfl, rfl, id⟩
    · exact .refl s
  case readMap => unfold takeReadMap; split <;> exact .refl s
  case setRole =>
    unfold takeSetRole
    split
    · exact .refl s
    · exact settles ⟨rfl, rfl, rfl, rfl, id⟩
  case setChannel =>
    unfold takeSetChannel
    split
    · dsimp only
      repeat' split
      · exact .refl s
      · exact settles ⟨rfl, rfl, rfl, rfl, id⟩
      · exact .refl s
    · exact .refl s
  case readChannel => unfold takeReadChannel; split <;> exact .refl s
  case clearChannel =>
    unfold takeClearChannel
    split
    · exact .refl s
    · exact settles ⟨rfl, rfl, rfl, rfl, id⟩
  case setFlasher => exact s.changeFlasher_keepsTable _ _
  case readFlasher => exact .refl s
  case setGauge => unfold takeSetGauge; split <;> exact left ⟨rfl, rfl, rfl, rfl, id⟩
  case readGauge =>
    unfold takeReadGauge
    split
    · dsimp only [accept_state]; split <;> exact left ⟨rfl, rfl, rfl, rfl, id⟩
    · exact .refl s
  case setGaugePosition => unfold takeSetGaugePosition; repeat' split
                           all_goals exact left ⟨rfl, rfl, rfl, rfl, id⟩
  case setSender => unfold takeSetSender; split <;> exact left ⟨rfl, rfl, rfl, rfl, id⟩
  case readSender => unfold takeReadSender; split <;> exact .refl s
  case setFan =>
    unfold takeSetFan
    split
    · exact .refl s
    · exact left (s.changeFan_sameTable _)
  case readFan => exact .refl s
  case setSupply =>
    unfold takeSetSupply
    split
    · exact .refl s
    · dsimp only
      split
      · exact settles ⟨rfl, rfl, rfl, rfl, id⟩
      · exact .refl s
  case readSupply =>
    unfold takeReadSupply
    split
    · exact .refl s
    · dsimp only [accept_state]; split <;> exact left ⟨rfl, rfl, rfl, rfl, id⟩
  case tableOpen => unfold takeTableOpen; repeat' split
                    all_goals exact left ⟨rfl, rfl, rfl, rfl, id⟩
  case tablePoint => unfold takeTablePoint; repeat' split
                     all_goals exact left ⟨rfl, rfl, rfl, rfl, id⟩
  case tableCommit =>
    unfold takeTableCommit
    repeat' split
    · exact .refl s
    · exact .refl s
    · exact .refl s
    · exact .refl s
    · exact (left ⟨rfl, rfl, rfl, rfl, id⟩).trans (State.startProgramming_keepsTable (s.withStaging none) _ fun _ => rfl)
  case tableRead => unfold takeTableRead; repeat' split
                    all_goals exact .refl s
  case saveSettings =>
    unfold takeSaveSettings
    split
    · exact .refl s
    · exact s.startProgramming_keepsTable _ id
  case readStore => exact .refl s

/-! ### Frames -/

theorem takeFrame_keepsTable (frame : Frame) (s : State) : s.KeepsTable (takeFrame frame s).1 := by
  unfold takeFrame
  split
  · exact .refl s
  · exact .refl s
  · split
    · exact takeRequest_keepsTable _ _ (by assumption) s
    · exact .refl s

/-- A change of the link that leaves LIMP alone leaves the demand table alone. -/
theorem State.withLink_sameTable (s : State) (link : Link) (h : link.limp = s.link.limp) :
    s.SameTable { s with link := link } := ⟨rfl, rfl, rfl, h, id⟩

theorem State.answer_keepsTable (s : State) (frame : Frame) (take : State → State × Reply)
    (place : Frame → List Outgoing → List Outgoing) (h : ∀ s : State, s.KeepsTable (take s).1) :
    s.KeepsTable (s.answer frame take place) :=
  ((s.withLink_sameTable _ (by rfl)).keeps.trans (h _)).trans (State.withLink_sameTable _ _ rfl).keeps

theorem State.raiseDemandChanges_sameTable (s before : State) : s.SameTable (s.raiseDemandChanges before) :=
  ⟨by simp, by simp, by simp, by simp, by simp⟩

/-- The record that LIMP exit leaves: no link value, evaluated under the function's own mode (R20). -/
theorem rejoinRecord_inRange (f : Fn) (mode : SourceMode) (r : FnRecord) (h : r.InRange f) :
    (rejoinRecord f mode r).InRange f :=
  FnRecord.inRange_of_evaluation (r := { r with link := none }) h.1 (by simp) rfl

/-- The record that LIMP entry leaves: no link value, evaluated as under SWITCH_ONLY (R19). -/
theorem limpRecord_inRange (f : Fn) (r : FnRecord) (h : r.InRange f) : (limpRecord r).InRange f := by
  refine ⟨h.1, ?_, by simp [limpRecord]⟩
  unfold limpRecord
  dsimp only
  split
  · exact Nat.zero_le _
  · exact h.1

theorem State.exitLimp_keepsTable (s : State) : s.KeepsTable s.exitLimp := by
  have rejoined : s.KeepsTable { s with
      functions := vecOfFn fun i => rejoinRecord (Fn.ofIdx i) s.settings.modes[i] s.functions[i]
      link := { s.link with limp := false, timer := 0 } } := by
    constructor
    · intro _
      refine (State.evaluated_iff _).2 fun _ f => ?_
      simp [State.fn, State.mode, rejoinRecord, modeEvaluation]
    · intro h
      obtain ⟨values, levels, store⟩ := (State.valuesInRange_iff s).1 h
      refine (State.valuesInRange_iff _).2 ⟨fun f => ?_, levels, store⟩
      simpa [State.fn] using rejoinRecord_inRange f s.settings.modes[f.idx] (s.fn f) (values f)
  exact (rejoined.trans (State.raiseDemandChanges_sameTable _ _).keeps).trans (State.reactFrom_sameTable _ _).keeps

theorem State.enterLimp_keepsTable (s : State) : s.KeepsTable s.enterLimp := by
  constructor
  · intro _ hl
    simp at hl
  · intro h
    obtain ⟨values, levels, store⟩ := (State.valuesInRange_iff s).1 h
    have entered : State.ValuesInRange { s with
        functions := vecOfFn fun i => limpRecord s.functions[i]
        reservation := none
        store := { s.store with staging := none }
        gauges := vecOfFn fun g => { s.gauge g with linkPosition := 0 }
        link := { s.link with limp := true, timer := 0 } } := by
      refine (State.valuesInRange_iff _).2 ⟨fun f => ?_, levels, store⟩
      simpa [State.fn] using limpRecord_inRange f (s.fn f) (values f)
    exact (((State.raise_sameTable _ _ _).trans (State.raiseDemandChanges_sameTable _ _)).trans
      (State.reactFrom_sameTable _ _)).keeps.2 entered

theorem State.validFrame_keepsTable (s : State) : s.KeepsTable s.validFrame := by
  have exited : s.KeepsTable (if s.link.limp then s.exitLimp else s) := by
    split
    · exact s.exitLimp_keepsTable
    · exact .refl s
  exact exited.trans (State.withLink_sameTable _ _ rfl).keeps

theorem State.holdPending_sameTable (s : State) (frame : Frame) : s.SameTable (s.holdPending frame) := by
  rw [State.holdPending_eq]
  exact ⟨rfl, rfl, rfl, rfl, id⟩

theorem State.handOn_keepsTable (s : State) (frame : Frame) (take : State → State × Reply)
    (h : ∀ s : State, s.KeepsTable (take s).1) : s.KeepsTable (s.handOn frame take) := by
  obtain ⟨-, -, e⟩ | ⟨-, e⟩ := s.handOn_cases frame take
  · rw [e]; exact s.validFrame_keepsTable.trans (State.answer_keepsTable _ _ _ _ h)
  · rw [e]; exact s.validFrame_keepsTable.trans (State.holdPending_sameTable _ _).keeps

theorem State.serve_keepsTable (s : State) (i : Instr) (take : State → State × Reply)
    (h : ∀ s : State, s.KeepsTable (take s).1) : s.KeepsTable (s.serve i take) := by
  unfold State.serve State.whenPowered
  split
  · split
    · exact s.handOn_keepsTable _ _ h
    · exact .refl s
  · exact .refl s

theorem State.queueError_sameTable (s : State) (status : Status) : s.SameTable (s.queueError status) := by
  unfold State.queueError
  split
  · exact .refl s
  · exact s.withLink_sameTable _ rfl

theorem State.receive_sameTable (s : State) (r : Receiver) : s.SameTable (s.receive r) := s.withLink_sameTable _ rfl

theorem State.checkFrame_keepsTable (s : State) (len : Byte) (frame : Frame) (chk : Byte) :
    s.KeepsTable (s.checkFrame len frame chk) := by
  unfold State.checkFrame
  dsimp only
  split
  · exact (s.receive_sameTable _).keeps.trans (State.handOn_keepsTable _ _ _ (takeFrame_keepsTable frame))
  · exact ((s.receive_sameTable _).trans (State.queueError_sameTable _ _)).keeps

theorem State.refuseLength_sameTable (s : State) : s.SameTable s.refuseLength :=
  (s.receive_sameTable _).trans (State.queueError_sameTable _ _)

theorem State.receiveByte_keepsTable (s : State) (b : Byte) : s.KeepsTable (s.receiveByte b) := by
  unfold State.receiveByte
  split
  · split
    · exact (s.receive_sameTable _).keeps
    · exact .refl s
  · split
    · exact s.refuseLength_sameTable.keeps
    · exact (s.receive_sameTable _).keeps
  · exact (s.receive_sameTable _).keeps
  · exact (s.receive_sameTable _).keeps
  · exact s.checkFrame_keepsTable _ _ _

theorem State.serveNext_keepsTable (s : State) : s.KeepsTable s.serveNext := by
  unfold State.serveNext
  dsimp only
  split
  · split
    · exact (s.withLink_sameTable _ rfl).keeps
    · exact (s.withLink_sameTable _ (by rfl)).keeps.trans (State.answer_keepsTable _ _ _ _ (takeFrame_keepsTable _))
  · exact (s.withLink_sameTable _ rfl).keeps

theorem State.sendReply_keepsTable (s : State) : s.KeepsTable s.sendReply := by
  unfold State.sendReply
  split
  · exact .refl s
  · dsimp only
    split
    · exact (s.withLink_sameTable _ (by rfl)).keeps.trans (State.serveNext_keepsTable _)
    · exact (s.withLink_sameTable _ rfl).keeps

/-! ### Power -/

theorem factorySettings_bindingsFit : factorySettings.bindingsFit = true := by decide

theorem startFunction_evaluated (settings : Settings) (f : Fn) :
    (startFunction settings f).effective = modeEvaluation f settings.modes[f.idx] (startFunction settings f) := rfl

theorem startFunction_inRange (settings : Settings) (f : Fn) : (startFunction settings f).InRange f := by
  refine FnRecord.inRange_of_evaluation (mode := settings.modes[f.idx])
    (r := ⟨if isBound settings.bindings f then 0 else f.restValue, none, 0, false⟩) ?_ (by simp) rfl
  dsimp only
  split
  · exact Nat.zero_le _
  · exact f.restValue_le

/-- Starting afresh makes the records evaluated and in range, whatever they were (R21). -/
theorem State.startUp_keepsTable (s : State) (detail : Nat) : s.KeepsTable (s.startUp detail) := by
  have fn : ∀ f, (s.startUp detail).fn f = startFunction (s.startUp detail).settings f := fun f => by
    simp [State.fn, State.startUp]
  constructor
  · intro _
    refine (State.evaluated_iff _).2 fun _ f => ?_
    rw [fn]; exact startFunction_evaluated _ f
  · intro h
    obtain ⟨-, -, page, -⟩ := (State.valuesInRange_iff s).1 h
    refine (State.valuesInRange_iff _).2 ⟨fun f => ?_, ?_, page, nofun⟩
    · rw [fn]; exact startFunction_inRange _ f
    · simp only [State.startUp]
      cases hp : s.store.settingsPage with
      | none => exact factorySettings_bindingsFit
      | some x => exact page x hp

theorem State.hold_keepsTable (s : State) : s.KeepsTable s.hold :=
  (s.startUp_keepsTable 0).trans (State.SameTable.keeps ⟨rfl, rfl, rfl, rfl, id⟩)

/-! ### The commands of the clock and the samples -/

theorem State.whenPowered_keepsTable (s : State) (k : State → State) (h : ∀ s : State, s.KeepsTable (k s)) :
    s.KeepsTable (s.whenPowered k) := by
  unfold State.whenPowered
  split
  · exact h s
  · exact .refl s

/-- A programming that ends well writes its image's page, whose level values are in range as the image's were. -/
theorem State.finishProgramming_keepsTable (s : State) (p : Programming) (hp : s.store.programming = some p) :
    s.KeepsTable (s.finishProgramming p.image) := by
  have written : s.store.BindingsFit → (s.finishProgramming p.image).store.BindingsFit := by
    rintro ⟨page, flight⟩
    have fits := flight p hp
    unfold State.finishProgramming Store.writePage
    cases hi : p.image with
    | table q points => exact ⟨page, nofun⟩
    | settings x =>
      rw [hi] at fits
      exact ⟨fun y hy => by obtain rfl := Option.some.inj hy; exact fits, nofun⟩
  exact State.SameTable.keeps ⟨by simp, by simp, by simp, by simp, written⟩

theorem State.failProgramming_sameTable (s : State) (image : Image) (cause : FailureCause) :
    s.SameTable (s.failProgramming image cause) :=
  ⟨rfl, rfl, rfl, rfl, fun h => h.emptied rfl rfl⟩

theorem State.fanFault_sameTable (s : State) (detail : Nat) : s.SameTable (s.fanFault detail) :=
  ⟨by simp, by simp, by simp, by simp, by simp⟩

theorem State.trip_sameTable (s : State) (c : Fin 16) : s.SameTable (s.trip c) :=
  ⟨by simp, by simp, by simp, by simp, by simp⟩

theorem State.sampleFan_sameTable (s : State) (milliamps : Nat) : s.SameTable (s.sampleFan milliamps) := by
  have kept : s.SameTable { s with fan := { s.fan with current := currentReading fanTop milliamps } } :=
    ⟨rfl, rfl, rfl, rfl, id⟩
  unfold State.sampleFan
  dsimp only
  repeat' split
  · exact kept
  · exact kept.trans (State.fanFault_sameTable _ _)
  · exact ⟨rfl, rfl, rfl, rfl, id⟩

theorem State.setChannel_sameTable (s : State) (c : Fin 16) (x : Channel) : s.SameTable (s.setChannel c x) :=
  ⟨rfl, rfl, rfl, rfl, id⟩

theorem State.setGauge_sameTable (s : State) (g : Fin 4) (x : Gauge) : s.SameTable (s.setGauge g x) :=
  ⟨rfl, rfl, rfl, rfl, id⟩

theorem State.sampleChannel_sameTable (s : State) (c : Fin 16) (milliamps : Nat) :
    s.SameTable (s.sampleChannel c milliamps) := by
  unfold State.sampleChannel
  dsimp only
  repeat' split
  · exact ((s.setChannel_sameTable _ _).trans (State.trip_sameTable _ _)).trans (State.react_sameTable _)
  · exact s.setChannel_sameTable _ _
  · exact s.setChannel_sameTable _ _

theorem State.sampleSender_sameTable (s : State) (n : Fin 4) (pin : SenderPin) :
    s.SameTable (s.sampleSender n pin) := by
  unfold State.sampleSender
  dsimp only
  split
  · exact ⟨rfl, rfl, rfl, rfl, id⟩
  · exact ⟨rfl, rfl, rfl, rfl, id⟩

theorem State.updateGauge_sameTable (s : State) (g : Fin 4) : s.SameTable (s.updateGauge g) := by
  unfold State.updateGauge
  repeat' split
  · exact .refl s
  · exact s.setGauge_sameTable _ _
  · dsimp only
    split
    · exact (s.setGauge_sameTable _ _).trans (State.raise_sameTable _ _ _)
    · exact s.setGauge_sameTable _ _

theorem State.sampleDriver_sameTable (s : State) (g : Fin 4) (milliamps : Nat) :
    s.SameTable (s.sampleDriver g milliamps) := by
  unfold State.sampleDriver
  dsimp only
  repeat' split
  · exact .refl s
  · exact (s.setGauge_sameTable _ _).trans (State.raise_sameTable _ _ _)
  · exact s.setGauge_sameTable _ _

theorem State.judgeSlot_sameTable (s : State) (bat dyn : Nat) : s.SameTable (s.judgeSlot bat dyn) :=
  ⟨by simp, by simp, by simp, by simp, by simp⟩

theorem State.moveSupply_sameTable (s : State) (next : SupplyState) (armed : Bool) :
    s.SameTable (s.moveSupply next armed) :=
  ⟨by simp, by simp, by simp, by simp, by simp⟩

theorem State.expireTimer_keepsTable (s : State) (runsIn : Bool) (timer : SupplyTimer) (next : SupplyState)
    (armed : Bool) : s.KeepsTable (s.expireTimer runsIn timer next armed) := by
  refine s.whenPowered_keepsTable _ fun s => ?_
  split
  · exact ((s.moveSupply_sameTable _ _).trans (State.react_sameTable _)).keeps
  · exact .refl s

/-- A millisecond moves no record, and no image in flight. -/
theorem State.tick_keepsTable (s : State) : s.KeepsTable s.tick := by
  refine s.whenPowered_keepsTable _ fun s => State.SameTable.keeps ⟨rfl, rfl, rfl, rfl, ?_⟩
  rintro ⟨page, flight⟩
  refine ⟨page, fun p hp => ?_⟩
  obtain ⟨q, hq, rfl⟩ := Option.map_eq_some_iff.1 hp
  exact flight q hq

/-! ### Every command and every step -/

/-- A command that is no request keeps the invariants of the demand table. -/
theorem exec_event_keepsTable (i : Instr) (h : frameOf? i = none) (s t : State) (ht : exec i s = .next t) :
    s.KeepsTable t := by
  have left : ∀ {t u : State}, t.SameTable u → t.KeepsTable u := State.SameTable.keeps
  cases i <;> simp only [frameOf?, reduceCtorEq] at h <;> obtain rfl := Host.Outcome.next.inj ht
  case powerOnReset => exact s.startUp_keepsTable 0
  case partRestart =>
    refine s.whenPowered_keepsTable _ fun s => ?_
    split
    · exact s.startUp_keepsTable 1
    · exact .refl s
  case frameReceived =>
    refine s.whenPowered_keepsTable _ fun s => ?_
    split
    · exact s.checkFrame_keepsTable _ _ _
    all_goals exact .refl s
  case frameBadLength =>
    refine s.whenPowered_keepsTable _ fun s => ?_
    split
    · exact left s.refuseLength_sameTable
    · exact .refl s
  case frameGapTimeout => exact s.whenPowered_keepsTable _ fun s => left (s.receive_sameTable _)
  case replySent => exact s.whenPowered_keepsTable _ State.sendReply_keepsTable
  case unknownKindRequest =>
    refine s.whenPowered_keepsTable _ fun s => ?_
    split
    · exact .refl s
    · exact s.handOn_keepsTable _ _ fun s => .refl s
  case programmingComplete =>
    refine s.whenPowered_keepsTable _ fun s => ?_
    split
    · exact .refl s
    · repeat' split
      · exact left (s.failProgramming_sameTable _ _)
      · exact s.finishProgramming_keepsTable _ (by assumption)
      · exact left (s.failProgramming_sameTable _ _)
  case limpEntry =>
    refine s.whenPowered_keepsTable _ fun s => ?_
    split
    · exact .refl s
    · exact s.enterLimp_keepsTable
  case switchRawChange => exact left (s.setInput_sameTable _ _)
  case debounceExpiry => exact s.whenPowered_keepsTable _ fun s => s.expireDebounce_keepsTable _
  case runOnExpiry =>
    refine s.whenPowered_keepsTable _ fun s => ?_
    split
    · exact s.cancelSide_keepsTable _
    · exact .refl s
  case phaseBoundary =>
    refine s.whenPowered_keepsTable _ fun s => ?_
    split
    · exact .refl s
    · have begun : s.SameTable (s.beginPhase s.flasher.cadence.flip) := ⟨rfl, rfl, rfl, rfl, id⟩
      exact left (begun.trans (State.react_sameTable _))
  case inrushEnd =>
    refine s.whenPowered_keepsTable _ fun s => ?_
    split
    · exact left (s.setChannel_sameTable _ _)
    · exact .refl s
  case pullInEnd =>
    refine s.whenPowered_keepsTable _ fun s => ?_
    split
    · exact left (s.setChannel_sameTable _ _)
    · exact .refl s
  case channelSample => exact s.whenPowered_keepsTable _ fun s => left (s.sampleChannel_sameTable _ _)
  case lampOpenDetect =>
    refine s.whenPowered_keepsTable _ fun s => ?_
    dsimp only
    repeat' split
    · exact left (s.setChannel_sameTable _ _)
    · exact left (((s.setChannel_sameTable _ _).trans (State.raise_sameTable _ _ _)).trans (State.react_sameTable _))
    · exact .refl s
  case lampOpenClear =>
    refine s.whenPowered_keepsTable _ fun s => ?_
    dsimp only
    split
    · exact left ((s.setChannel_sameTable _ _).trans (State.react_sameTable _))
    · exact .refl s
  case goodRunExpiry =>
    refine s.whenPowered_keepsTable _ fun s => ?_
    dsimp only
    split
    · exact left (s.setChannel_sameTable _ _)
    · exact .refl s
  case tripWaitEnd =>
    refine s.whenPowered_keepsTable _ fun s => ?_
    dsimp only
    split
    · exact left ((s.setChannel_sameTable _ _).trans (State.react_sameTable _))
    · exact .refl s
  case senderSample => exact s.whenPowered_keepsTable _ fun s => left (s.sampleSender_sameTable _ _)
  case gaugeUpdate =>
    exact s.whenPowered_keepsTable _ fun s =>
      left ((s.updateGauge_sameTable _).trans (State.setGauge_sameTable _ _ _))
  case driverSample => exact s.whenPowered_keepsTable _ fun s => left (s.sampleDriver_sameTable _ _)
  case driverWaitEnd =>
    refine s.whenPowered_keepsTable _ fun s => ?_
    split
    · exact left (s.setGauge_sameTable _ _)
    · exact .refl s
  case settleWindowEnd =>
    refine s.whenPowered_keepsTable _ fun s => ?_
    have ended : s.SameTable s.endSettle := ⟨rfl, rfl, rfl, rfl, id⟩
    split
    · exact left (ended.trans (State.react_sameTable _))
    · exact .refl s
  case fanRampStep =>
    refine s.whenPowered_keepsTable _ fun s => ?_
    split
    · exact left ⟨rfl, rfl, rfl, rfl, id⟩
    · exact .refl s
  case fanSample => exact s.whenPowered_keepsTable _ fun s => left (s.sampleFan_sameTable _)
  case fanStall =>
    refine s.whenPowered_keepsTable _ fun s => ?_
    split
    · exact left (s.fanFault_sameTable _)
    · exact .refl s
  case stallWaitEnd =>
    refine s.whenPowered_keepsTable _ fun s => ?_
    split
    · exact left ⟨rfl, rfl, rfl, rfl, id⟩
    · exact .refl s
  case fanOpenDetect =>
    refine s.whenPowered_keepsTable _ fun s => ?_
    split
    · exact left ⟨rfl, rfl, rfl, rfl, id⟩
    · exact .refl s
  case fanOpenClear =>
    refine s.whenPowered_keepsTable _ fun s => ?_
    split
    · exact left ⟨rfl, rfl, rfl, rfl, id⟩
    · exact .refl s
  case sampleSlot =>
    exact s.whenPowered_keepsTable _ fun s => left ((s.judgeSlot_sameTable _ _).trans (State.react_sameTable _))
  case leanTimerExpiry => exact s.expireTimer_keepsTable _ _ _ _
  case budgetTimerExpiry => exact s.expireTimer_keepsTable _ _ _ _
  case recoveryTimerExpiry => exact s.expireTimer_keepsTable _ _ _ _
  case shedTimerExpiry => exact s.expireTimer_keepsTable _ _ _ _
  case unshedTimerExpiry => exact s.expireTimer_keepsTable _ _ _ _
  case crankExitTimerExpiry => exact s.expireTimer_keepsTable _ _ _ _
  case crankLimitTimerExpiry => exact s.expireTimer_keepsTable _ _ _ _
  case powerLoss => exact s.whenPowered_keepsTable _ State.hold_keepsTable
  case byteReceived => exact s.whenPowered_keepsTable _ fun s => s.receiveByte_keepsTable _

theorem exec_keepsTable (i : Instr) (s t : State) (ht : exec i s = .next t) : s.KeepsTable t := by
  cases hf : frameOf? i with
  | none => exact exec_event_keepsTable i hf s t ht
  | some frame =>
    obtain ⟨take, hk, he⟩ := exec_request i frame hf
    obtain rfl := Host.Outcome.next.inj ((he s).symm.trans ht)
    exact s.serve_keepsTable i take fun s => takeRequest_keepsTable i take hk s

/-- A step runs a command on a state that differs in the queue or the clock's count alone, or passes a millisecond. -/
theorem step_cases {s t : State} (h : step s = .next t) :
    (∃ i rest, exec i (s.withPending rest) = .next t) ∨ (∃ i, exec i s.clockActed = .next t) ∨ t = s.tick := by
  unfold step at h
  split at h
  · exact .inl ⟨_, _, h⟩
  · unfold idle at h
    split at h
    · exact .inr (.inl ⟨_, h⟩)
    · exact .inr (.inr (Host.Outcome.next.inj h).symm)

theorem step_keepsTable (s t : State) (h : step s = .next t) : s.KeepsTable t := by
  obtain ⟨i, rest, h⟩ | ⟨i, h⟩ | rfl := step_cases h
  · have queued : s.SameTable (s.withPending rest) := ⟨rfl, rfl, rfl, rfl, id⟩
    exact queued.keeps.trans (exec_keepsTable i _ t h)
  · have counted : s.SameTable s.clockActed := ⟨rfl, rfl, rfl, rfl, id⟩
    exact counted.keeps.trans (exec_keepsTable i _ t h)
  · exact s.tick_keepsTable

end Sys2Proof.Machine

open Sys2Proof Sys2Proof.Machine

/-- Settles O56: every command keeps both invariants, case by case, and so does a millisecond. -/
theorem everyStepKeepsFunctionsEvaluated : Obligations.EveryStepKeepsFunctionsEvaluated := by
  unfold Obligations.EveryStepKeepsFunctionsEvaluated
  exact step_keepsTable
end

section
/-! SUPPORT. The part's own clock: what a millisecond moves, and when each timer has its command due (logs 1, 19). -/

namespace Sys2Proof.Machine

/-! ### One millisecond -/

theorem step_of_due {s : State} {c : Instr} (hq : s.pending = []) (hd : s.due = some c) :
    step s = exec c s.clockActed := by
  simp [step, idle, hq, hd]

theorem step_of_not_due {s : State} (hq : s.pending = []) (hd : s.due = none) : step s = .next s.tick := by
  simp [step, idle, hq, hd]

theorem State.tick_on {s : State} (h : s.powered = true) : s.tick = { s with
    inputs := vecOfFn fun i => (s.input i).tick
    flasher := s.flasher.tick
    channels := vecOfFn fun c => (s.channel c).tick (s.supply.state == .crank)
    gauges := vecOfFn fun g => (s.gauge g).tick
    fan := s.fan.tick (s.supply.state == .crank)
    store := { s.store with programming := s.store.programming.map Programming.tick }
    link := s.tickLink } := s.whenPowered_on _ h

/-- The conducting states of a channel, named (R45). -/
theorem ChannelState.conducting_iff (x : ChannelState) :
    x.conducting = true ↔ x = .inrush ∨ x = .on ∨ x = .pullIn ∨ x = .hold := by
  cases x <;> simp [ChannelState.conducting]

/-- The open test runs in ON and HOLD (R45). -/
theorem ChannelState.tested_iff (x : ChannelState) : x.tested = true ↔ x = .on ∨ x = .hold := by
  cases x <;> simp [ChannelState.tested]

/-- The fan's conducting states, named (R120). -/
theorem FanState.conducting_iff (x : FanState) : x.conducting = true ↔ x = .ramp ∨ x = .run := by
  cases x <;> simp [FanState.conducting]

theorem State.linkTimerRuns_iff (s : State) :
    s.linkTimerRuns = true ↔ s.link.limp = false ∧ s.settings.linkTimeout ≠ 0 := by
  simp [State.linkTimerRuns]

/-- What a millisecond does to a channel (R45, R53, R56, R58, R61). -/
theorem Channel.tick_eq (x : Channel) (supply : SupplyState) :
    let conducts : Prop := x.state = .inrush ∨ x.state = .on ∨ x.state = .pullIn ∨ x.state = .hold
    let settled : Prop := x.state = .on ∨ x.state = .hold
    x.tick (supply == .crank) = { x with
      activation := if conducts then x.activation + 1 else x.activation
      goodRun := if settled then x.goodRun + 1 else x.goodRun
      lowRun := if settled ∧ supply ≠ .crank then x.lowRun.map (fun n => min 50 (n + 1)) else x.lowRun
      highRun := if settled ∧ supply ≠ .crank then x.highRun.map (· + 1) else x.highRun
      wait := if x.state = .tripWait then x.wait + 1 else x.wait } := by
  have run : (min openTestTime ∘ fun n => n + 1) = fun n => min 50 (n + 1) := rfl
  simp [Channel.tick, ChannelState.conducting_iff, ChannelState.tested_iff, tickRun, run]

/-- What a millisecond does to the fan (R120, R122, R124, R125, R127, R129, R130). -/
theorem Fan.tick_eq (f : Fan) (supply : SupplyState) :
    let conducts : Prop := f.state = .ramp ∨ f.state = .run
    f.tick (supply == .crank) = { f with
      settle := f.settle.map (· + 1)
      rampTimer := if f.state = .ramp then f.rampTimer + 1 else f.rampTimer
      stallRun := if conducts ∧ supply ≠ .crank then f.stallRun.map (· + 1) else f.stallRun
      lowRun := if conducts then f.lowRun.map (· + 1) else f.lowRun
      highRun := if conducts then f.highRun.map (· + 1) else f.highRun
      waitTimer := if f.state = .stallWait then f.waitTimer + 1 else f.waitTimer } := by
  simp [Fan.tick, FanState.conducting_iff, tickRun]

/-! ### What is due -/

@[simp] theorem mem_onlyIf (condition : Bool) (c d : Instr) : c ∈ onlyIf condition d ↔ condition = true ∧ c = d := by
  cases condition <;> simp [onlyIf]

/-- A run that may be stopped has reached a figure above 0 exactly where its time, 0 while stopped, has. -/
theorem reached_iff (figure : Nat) (run : Option Nat) :
    reached figure run = true ↔ run ≠ none ∧ figure ≤ run.getD 0 := by
  cases run <;> simp [reached]

theorem reached_iff_of_pos {figure : Nat} (h : 0 < figure) (run : Option Nat) :
    reached figure run = true ↔ figure ≤ run.getD 0 := by
  cases run <;> simp [reached]; omega

theorem State.due_held {s : State} (h : s.powered = false) : s.due = none := by
  simp [State.due, State.allDue, h]

/-- What is due is due in one of the blocks. -/
theorem State.mem_allDue {s : State} (h : s.powered = true) (c : Instr) : c ∈ s.allDue ↔
    c ∈ s.dueLink ∨ (∃ i, c ∈ s.dueInput i) ∨ c ∈ s.dueFlasher ∨ (∃ k, c ∈ s.dueChannel k)
      ∨ (∃ g, c ∈ s.dueGauge g) ∨ c ∈ s.dueFan := by
  simp [State.allDue, h]

/-- Whether no reply to a request waits (R165, log 12). -/
theorem outbox_any_isReply (outbox : List Outgoing) :
    outbox.any Outgoing.isReply = false ↔ ∀ o ∈ outbox, o.isReply = false := by
  simp

theorem State.mem_dueLink (s : State) (c : Instr) : c ∈ s.dueLink ↔
    (c = .partRestart ∧ s.restarting = true ∧ ∀ o ∈ s.link.outbox, o.isReply = false)
    ∨ (c = .frameGapTimeout ∧ s.link.receiver ≠ .hunting ∧ 5 < s.link.gap)
    ∨ (c = .limpEntry ∧ s.link.limp = false ∧ s.settings.linkTimeout ≠ 0
      ∧ s.settings.linkTimeout ≤ s.link.timer)
    ∨ (∃ p, s.store.programming = some p ∧ p.image.programmingTime ≤ p.elapsed
      ∧ c = .programmingComplete (Config.readBackAgrees s.clockActs)) := by
  have gap : gapTime ≤ s.link.gap ↔ 5 < s.link.gap := Iff.rfl
  cases hp : s.store.programming <;>
    simp [State.dueLink, hp, State.linkTimerRuns_iff, gap, and_comm, and_left_comm]

/-- The debounced state a raw level settles to, spelled out (R2). -/
theorem settledState_eq (raw : Bool) : settledState raw = if raw = true then .active else .inactive := by
  cases raw <;> rfl

theorem State.mem_dueInput (s : State) (i : Fin 12) (c : Instr) : c ∈ s.dueInput i ↔
    c = .debounceExpiry i ∧ (s.binding i).debounce ≤ (s.input i).count
      ∧ (s.input i).debounced ≠ (if s.raw i = true then .active else .inactive) := by
  simp [State.dueInput, settledState_eq, and_comm]

theorem State.mem_dueFlasher (s : State) (c : Instr) : c ∈ s.dueFlasher ↔
    (∃ side, c = .runOnExpiry side ∧ s.settings.runOnLimit ≠ 0 ∧ s.runOn side ≠ none
      ∧ s.settings.runOnLimit * 1000 ≤ (s.runOn side).getD 0)
    ∨ (c = .phaseBoundary ∧ s.flasher.cadence ≠ .idle ∧ s.flasher.phaseLength ≤ s.flasher.phaseTimer) := by
  have sides : ∀ P : Side → Prop, (∃ side, P side) ↔ P .left ∨ P .right := fun P =>
    ⟨fun ⟨side, h⟩ => by cases side <;> simp [h], fun h => h.elim (⟨_, ·⟩) (⟨_, ·⟩)⟩
  simp [State.dueFlasher, reached_iff, sides, State.runOn, and_comm, or_assoc]

theorem State.openTestRuns_iff (s : State) (c : Fin 16) : s.openTestRuns c = true ↔
    ((s.channel c).state = .on ∨ (s.channel c).state = .hold) ∧ s.supply.state ≠ .crank := by
  simp [State.openTestRuns, ChannelState.tested_iff]

theorem State.mem_dueChannel (s : State) (k : Fin 16) (c : Instr) : c ∈ s.dueChannel k ↔
    (c = .inrushEnd k ∧ (s.channel k).state = .inrush ∧ (s.channelConfig k).inrushWindow ≤ (s.channel k).activation)
    ∨ (c = .pullInEnd k ∧ (s.channel k).state = .pullIn ∧ (s.channelConfig k).pullIn ≤ (s.channel k).activation)
    ∨ (c = .lampOpenDetect k ∧ ((s.channel k).state = .on ∨ (s.channel k).state = .hold) ∧ s.supply.state ≠ .crank
      ∧ 50 ≤ (s.channel k).lowRun.getD 0 ∧ (s.channel k).openFlag = false)
    ∨ (c = .lampOpenClear k ∧ ((s.channel k).state = .on ∨ (s.channel k).state = .hold) ∧ s.supply.state ≠ .crank
      ∧ 50 ≤ (s.channel k).highRun.getD 0 ∧ (s.channel k).openFlag = true)
    ∨ (c = .goodRunExpiry k ∧ ((s.channel k).state = .on ∨ (s.channel k).state = .hold)
      ∧ 10000 ≤ (s.channel k).goodRun ∧ (s.channel k).tripCount ≠ 0)
    ∨ (c = .tripWaitEnd k ∧ (s.channel k).state = .tripWait ∧ 1000 ≤ (s.channel k).wait) := by
  have run : ∀ r, reached openTestTime r = true ↔ 50 ≤ r.getD 0 := reached_iff_of_pos (by decide)
  have good : goodRunTime = 10000 := rfl
  have wait : tripWaitTime = 1000 := rfl
  simp [State.dueChannel, State.openTestRuns_iff, ChannelState.tested_iff, run, good, wait, and_assoc, and_comm,
    and_left_comm]

theorem State.mem_dueGauge (s : State) (g : Fin 4) (c : Instr) : c ∈ s.dueGauge g ↔
    (c = .driverWaitEnd g ∧ (s.gauge g).driver = .waiting ∧ 1000 ≤ (s.gauge g).driverWait)
    ∨ (c = .gaugeUpdate g ∧ 100 ≤ (s.gauge g).sinceUpdate) := by
  have wait : driverWaitTime = 1000 := rfl
  have period : gaugePeriod = 100 := rfl
  simp [State.dueGauge, wait, period, and_comm]

theorem State.mem_dueFan (s : State) (c : Instr) : c ∈ s.dueFan ↔
    (c = .settleWindowEnd ∧ s.fan.settle ≠ none ∧ s.settings.fan.settleWindow ≤ s.fan.settle.getD 0)
    ∨ (c = .fanRampStep ∧ s.fan.state = .ramp ∧ 100 * (s.fan.rampSteps + 1) ≤ s.fan.rampTimer)
    ∨ (c = .fanStall ∧ (s.fan.state = .ramp ∨ s.fan.state = .run) ∧ s.supply.state ≠ .crank
      ∧ 2000 ≤ s.fan.stallRun.getD 0)
    ∨ (c = .stallWaitEnd ∧ s.fan.state = .stallWait ∧ 10000 ≤ s.fan.waitTimer)
    ∨ (c = .fanOpenDetect ∧ (s.fan.state = .ramp ∨ s.fan.state = .run) ∧ 2000 ≤ s.fan.lowRun.getD 0
      ∧ s.fan.openFlag = false)
    ∨ (c = .fanOpenClear ∧ (s.fan.state = .ramp ∨ s.fan.state = .run) ∧ 2000 ≤ s.fan.highRun.getD 0
      ∧ s.fan.openFlag = true) := by
  have stall : ∀ r, reached stallTime r = true ↔ 2000 ≤ r.getD 0 := reached_iff_of_pos (by decide)
  have test : ∀ r, reached fanOpenTestTime r = true ↔ 2000 ≤ r.getD 0 := reached_iff_of_pos (by decide)
  have wait : stallWaitTime = 10000 := rfl
  have ramp : rampTime = 100 := rfl
  simp [State.dueFan, FanState.conducting_iff, reached_iff, stall, test, wait, ramp, and_assoc, and_comm,
    and_left_comm]

end Sys2Proof.Machine

open Sys2Proof Sys2Proof.Machine

/-- Settles O2: the step on an empty queue is the clock's, and its millisecond is `State.tick`, block by block. -/
theorem emptyQueueLetsTheClockAct : Obligations.EmptyQueueLetsTheClockAct := by
  unfold Obligations.EmptyQueueLetsTheClockAct
  refine ⟨fun s c => step_of_due, fun s hq hd hp => ⟨s.tick, step_of_not_due hq hd, ?_⟩⟩
  rw [State.tick_on hp]
  refine ⟨rfl, fun i => ?_, rfl, fun c => ?_, fun g => ?_, Fan.tick_eq _ _, rfl, ?_, rfl⟩
  · simp [State.input, Input.tick]
  · exact (vecOfFn_getElem_fin _ c).trans (Channel.tick_eq _ _)
  · simp [State.gauge, Gauge.tick]
  · simp [State.tickLink, State.linkTimerRuns_iff]

/-- Settles O3: what is due, block by block, read off for each command. -/
theorem timersAreDueAtTheirFigures : Obligations.TimersAreDueAtTheirFigures := by
  unfold Obligations.TimersAreDueAtTheirFigures
  refine fun s => ⟨State.due_held, fun h => ⟨rfl, fun c => ?_⟩⟩
  rw [State.mem_allDue h]
  simp only [State.mem_dueLink, State.mem_dueInput, State.mem_dueFlasher, State.mem_dueChannel, State.mem_dueGauge,
    State.mem_dueFan]
  cases c
  case programmingComplete agrees =>
    cases hp : s.store.programming with
    | none => simp
    | some p =>
      simp only [reduceCtorEq, false_and, false_or, exists_const, exists_false, or_false, Option.some.injEq, exists_eq_left',
        Instr.programmingComplete.injEq]
      exact Iff.rfl
  all_goals simp only [reduceCtorEq, false_and, and_false, exists_false, false_or, or_false, true_and, exists_eq_left',
    Instr.debounceExpiry.injEq, Instr.runOnExpiry.injEq, Instr.inrushEnd.injEq, Instr.pullInEnd.injEq,
    Instr.lampOpenDetect.injEq, Instr.lampOpenClear.injEq, Instr.goodRunExpiry.injEq, Instr.tripWaitEnd.injEq,
    Instr.gaugeUpdate.injEq, Instr.driverWaitEnd.injEq]

end

section
/-! SUPPORT. Power-on reset and the restart, block by block, and the moves of the switch pins. -/

namespace Sys2Proof.Machine

/-! ### Starting afresh -/

theorem exec_powerOnReset (s : State) : exec .powerOnReset s = .next (s.startUp 0) := rfl

theorem exec_partRestart {s : State} (hp : s.powered = true) (hr : s.restarting = true) :
    exec .partRestart s = .next (s.startUp 1) := by
  simp [exec, execPartRestart, State.whenPowered, hp, hr]

/-- The events after a reset differ in the detail of RESTARTED alone (R173). -/
theorem startEvents_set (lastInvalid : Option (Fin 9)) (detail detail' : Nat) :
    (startEvents lastInvalid detail).set Event.restarted.idx ⟨true, detail'⟩ = startEvents lastInvalid detail' := by
  unfold startEvents
  dsimp only
  rw [Vector.set_set]

theorem State.startUp_raise (s : State) (detail detail' : Nat) :
    (s.startUp detail).raise .restarted detail' = s.startUp detail' := by
  simp only [State.startUp, State.raise, startEvents_set]

/-- After a reset RESTARTED is set (R173), and of the others STORE_FAIL at most (R152). -/
theorem State.startUp_restarted (s : State) (detail : Nat) :
    (s.startUp detail).event .restarted = ⟨true, detail⟩ := by
  simp [State.event, State.startUp, startEvents]

theorem State.startUp_event (s : State) (detail : Nat) (e : Event) (hr : e ≠ .restarted) (hf : e ≠ .storeFail) :
    (s.startUp detail).event e = clearEvent := by
  simp only [State.event, State.startUp, startEvents]
  rw [vector_set_getElem_of_ne _ _ _ _ (Event.idx_ne hr.symm)]
  split
  · simp
  · rw [vector_set_getElem_of_ne _ _ _ _ (Event.idx_ne hf.symm)]; simp

theorem State.startUp_fn (s : State) (detail : Nat) (f : Fn) :
    (s.startUp detail).fn f = startFunction (s.startUp detail).settings f := by
  simp [State.fn, State.startUp]

theorem State.startUp_input (s : State) (detail : Nat) (i : Fin 12) :
    (s.startUp detail).input i = startInput (s.input i).contact := by
  simp [State.input, State.startUp]

theorem State.startUp_channel (s : State) (detail : Nat) (c : Fin 16) :
    (s.startUp detail).channel c = startChannel := by
  simp [State.channel, State.startUp]

theorem State.startUp_sender (s : State) (detail : Nat) (n : Fin 4) : (s.startUp detail).sender n = startSender := by
  simp [State.sender, State.startUp]

theorem State.startUp_gauge (s : State) (detail : Nat) (g : Fin 4) : (s.startUp detail).gauge g = startGauge := by
  simp [State.gauge, State.startUp]

/-! ### Pins -/

theorem exec_switchRawChange (s : State) (i : Fin 12) (contact : Contact) :
    exec (.switchRawChange i contact) s = .next (s.moveContact i contact) := rfl

/-- A raw level is active exactly where the pin is held on the active side (R1). -/
theorem rawLevel_iff (polarity : Polarity) (contact : Contact) : rawLevel polarity contact = true ↔
    (polarity = .activeToEarth ∧ contact = .earth) ∨ (polarity = .activeToSupply ∧ contact = .supply) := by
  cases polarity <;> cases contact <;> simp [rawLevel]

/-- The raw level of a pin that has moved is the one of its new contact (R1). -/
theorem State.moveContact_raw (s : State) (i : Fin 12) (contact : Contact) :
    (s.moveContact i contact).raw i = rawLevel (s.binding i).polarity contact := by
  simp [State.moveContact, State.raw]

end Sys2Proof.Machine

open Sys2Proof Sys2Proof.Machine

/-- Settles O4: both resets are `State.startUp`, which is read off block by block. -/
theorem resetStartsEveryBlockAfresh : Obligations.ResetStartsEveryBlockAfresh := by
  unfold Obligations.ResetStartsEveryBlockAfresh
  refine fun s => ⟨s.startUp 0, exec_powerOnReset s, fun hp hr => ?_, s.startUp_restarted 0, fun e hr hf => ?_, rfl, rfl,
    rfl, s.startUp_input 0, fun f => ?_, rfl, rfl, s.startUp_channel 0, s.startUp_sender 0, s.startUp_gauge 0, rfl, rfl,
    rfl, rfl, rfl, rfl, rfl, rfl, rfl, rfl, rfl, rfl, rfl, rfl, rfl, rfl⟩
  · rw [exec_partRestart hp hr, State.startUp_raise]
  · rw [s.startUp_event 0 e hr hf]; rfl
  · rw [State.startUp_fn]
    exact ⟨rfl, rfl, rfl, startFunction_evaluated _ f⟩

/-- Settles O20: the moved pin's raw level is `rawLevel` of its new contact, and the count restarts where that differs. -/
theorem pinMovesRestartTheCount : Obligations.PinMovesRestartTheCount := by
  unfold Obligations.PinMovesRestartTheCount
  refine fun s i contact => ⟨s.moveContact i contact, exec_switchRawChange s i contact, ?_, ?_⟩
  · rw [State.moveContact_raw, rawLevel_iff]
  · rw [State.moveContact_raw]
    by_cases h : rawLevel (s.binding i).polarity contact = s.raw i <;> simp [State.moveContact, State.setInput, h]

end

section
/-! SUPPORT. Causes that change several functions at once, LIMP entry and LIMP exit: the record each leaves, and the
settling of the blocks as one statement (R15, R19, R20). -/

namespace Sys2Proof.Machine

/-! ### What a change of effective values leaves -/

/-- The fan's part in a change reads the effective values alone. -/
theorem State.fanAfterDemand_congr (s : State) {t u : State} (h : t.functions = u.functions) :
    s.fanAfterDemand t = s.fanAfterDemand u := by
  have e : ∀ f, t.eff f = u.eff f := fun f => by simp only [State.eff, State.fn, h]
  unfold State.fanAfterDemand
  rw [e .ign, e .fan]

/-- Where effective values alone have changed since a state, the blocks settle with the fan as that change leaves it. -/
theorem State.reactFrom_settledAs {s u : State} (hf : u.fan = s.fan) (hs : u.settings.fan = s.settings.fan) :
    ({ u with fan := s.fanAfterDemand u } : State).settledAs (u.reactFrom s) := by
  have h := u.reactFrom_settled s
  rwa [State.fanOnDemand_eq, State.fanOnDemand_fan hf hs] at h

/-- Raising DEMAND_CHANGE for several functions changes that event's record alone. -/
theorem State.raiseDemandChanges_events (s before : State) : (s.raiseDemandChanges before).events
    = s.events.set Event.demandChange.idx ((s.raiseDemandChanges before).event .demandChange) := by
  have one : ∃ r, (s.raiseDemandChanges before).events = s.events.set Event.demandChange.idx r := by
    rw [State.raiseDemandChanges_fold]
    generalize Fn.all = l
    generalize hp : (fun f => decide (s.eff f = before.eff f)) = p
    have start : s.events = s.events.set Event.demandChange.idx s.events[Event.demandChange.idx] := by simp
    simp only [fun f => congrFun hp f]
    suffices ∀ u : State, (∃ r, u.events = s.events.set Event.demandChange.idx r) →
        ∃ r, (l.foldl (fun t f => if p f then t else t.raise .demandChange f.idx.val) u).events
          = s.events.set Event.demandChange.idx r from this s ⟨_, start⟩
    induction l with
    | nil => exact fun _ h => h
    | cons f l ih =>
      rintro u ⟨r, hr⟩
      refine ih _ ?_
      cases hf : p f
      · exact ⟨⟨true, f.idx.val⟩, by simp [hr, hf]⟩
      · exact ⟨r, by simp [hr, hf]⟩
  obtain ⟨r, hr⟩ := one
  rw [State.event, hr]
  simp

/-- After several functions have changed at once and the blocks have settled, DEMAND_CHANGE is as R15 says. -/
theorem State.demandChangeAfter_of_raised {s u t : State} (hf : t.functions = u.functions)
    (hu : u.event .demandChange = s.event .demandChange)
    (ht : t.event .demandChange = (u.raiseDemandChanges s).event .demandChange) : s.demandChangeAfter t := by
  have e : ∀ f, t.eff f = u.eff f := fun f => by simp only [State.eff, State.fn, hf]
  obtain ⟨changed, same⟩ := u.raiseDemandChanges_demandChange s
  simp only [State.demandChangeAfter, e, ht]
  exact ⟨changed, fun h => (same h).trans hu⟩

/-- After several functions have changed at once, the blocks settle with DEMAND_CHANGE as it has been raised. -/
theorem State.raised_settledAs {s u t : State} (ht : t = (u.raiseDemandChanges s).reactFrom s) (hf : u.fan = s.fan)
    (hs : u.settings.fan = s.settings.fan) : ({ u with
      fan := s.fanAfterDemand t
      events := u.events.set Event.demandChange.idx (t.event .demandChange) } : State).settledAs t := by
  have settled := State.reactFrom_settledAs (s := s) (u := u.raiseDemandChanges s) (by simpa) (by simpa)
  have raised : t.event .demandChange = (u.raiseDemandChanges s).event .demandChange := by
    rw [ht, State.reactFrom_event _ _ _ (by decide) (by decide)]
  have before : ({ u.raiseDemandChanges s with fan := s.fanAfterDemand t } : State)
      = { u with fan := s.fanAfterDemand t, events := (u.raiseDemandChanges s).events } := by simp
  rw [raised, ← State.raiseDemandChanges_events, ← before,
    State.fanAfterDemand_congr s (u := u.raiseDemandChanges s) (by simp [ht]), ht]
  exact settled

/-! ### LIMP entry -/

/-- What LIMP entry makes of the demand table, staging, the link positions and the link, before the blocks take it up
(R19, R113, R153, R167). -/
def State.limpEntered (s : State) : State :=
  ({ s with
    functions := vecOfFn fun i => limpRecord s.functions[i]
    reservation := none
    store := { s.store with staging := none }
    gauges := vecOfFn fun g => { s.gauge g with linkPosition := 0 }
    link := { s.link with limp := true, timer := 0 } } : State).raise .linkLost 0

theorem State.enterLimp_eq (s : State) : s.enterLimp = (s.limpEntered.raiseDemandChanges s).reactFrom s := rfl

theorem exec_limpEntry {s : State} (hp : s.powered = true) (hl : s.link.limp = false)
    (ht : s.settings.linkTimeout ≠ 0) : exec .limpEntry s = .next s.enterLimp := by
  simp [exec, execLimpEntry, State.whenPowered, hp, hl, ht]

@[simp] theorem State.enterLimp_functions (s : State) : s.enterLimp.functions = s.limpEntered.functions := by
  simp [State.enterLimp_eq]

theorem State.enterLimp_fn (s : State) (f : Fn) : s.enterLimp.fn f = limpRecord (s.fn f) := by
  simp [State.fn, State.limpEntered]

theorem State.enterLimp_gauge (s : State) (g : Fin 4) :
    s.enterLimp.gauge g = { s.gauge g with linkPosition := 0 } := by
  simp [State.enterLimp_eq, State.gauge, State.limpEntered]

/-- An event that LIMP entry's settling does not touch is as DEMAND_CHANGE's raising left it. -/
theorem State.enterLimp_event (s : State) (e : Event) (hc : e ≠ .chargeWarn) (hf : e ≠ .storeFail) :
    s.enterLimp.event e = (s.limpEntered.raiseDemandChanges s).event e := by
  rw [State.enterLimp_eq, State.reactFrom_event _ _ _ hc hf]

theorem State.enterLimp_linkLost (s : State) : s.enterLimp.event .linkLost = ⟨true, 0⟩ := by
  rw [State.enterLimp_event _ _ (by decide) (by decide), State.raiseDemandChanges_event _ _ _ (by decide)]
  simp [State.limpEntered]

theorem State.enterLimp_demandChange (s : State) : s.demandChangeAfter s.enterLimp :=
  State.demandChangeAfter_of_raised (u := s.limpEntered) (by simp)
    (State.raise_event_of_ne _ _ (by decide)) (s.enterLimp_event _ (by decide) (by decide))

theorem State.enterLimp_settled (s : State) : ({ s with
    functions := s.enterLimp.functions, link := s.enterLimp.link, gauges := s.enterLimp.gauges
    fan := s.fanAfterDemand s.enterLimp
    reservation := none, store := { s.store with staging := none }
    events := (s.events.set Event.linkLost.idx ⟨true, 0⟩).set Event.demandChange.idx
      (s.enterLimp.event .demandChange) } : State).settledAs s.enterLimp := by
  have h := State.raised_settledAs s.enterLimp_eq rfl rfl
  have gauges : s.enterLimp.gauges = s.limpEntered.gauges := by simp [State.enterLimp_eq]
  rw [State.enterLimp_functions, State.enterLimp_link, gauges]
  exact h

/-! ### LIMP exit -/

/-- What LIMP exit makes of the demand table and the link, before the blocks take it up (R20, R168). -/
def State.limpLeft (s : State) : State :=
  { s with
    functions := vecOfFn fun i => rejoinRecord (Fn.ofIdx i) s.settings.modes[i] s.functions[i]
    link := { s.link with limp := false, timer := 0 } }

theorem State.exitLimp_eq (s : State) : s.exitLimp = (s.limpLeft.raiseDemandChanges s).reactFrom s := rfl

@[simp] theorem State.exitLimp_functions (s : State) : s.exitLimp.functions = s.limpLeft.functions := by
  simp [State.exitLimp_eq]

theorem State.exitLimp_fn (s : State) (f : Fn) : s.exitLimp.fn f = rejoinRecord f (s.mode f) (s.fn f) := by
  simp [State.fn, State.mode, State.limpLeft]

theorem State.exitLimp_demandChange_eq (s : State) :
    s.exitLimp.event .demandChange = (s.limpLeft.raiseDemandChanges s).event .demandChange := by
  rw [State.exitLimp_eq, State.reactFrom_event _ _ _ (by decide) (by decide)]

theorem State.exitLimp_demandChange (s : State) : s.demandChangeAfter s.exitLimp :=
  State.demandChangeAfter_of_raised (u := s.limpLeft) (by simp) rfl s.exitLimp_demandChange_eq

theorem State.exitLimp_settled (s : State) : ({ s with
    functions := s.exitLimp.functions, link := s.exitLimp.link, fan := s.fanAfterDemand s.exitLimp
    events := s.events.set Event.demandChange.idx (s.exitLimp.event .demandChange) } : State).settledAs
      s.exitLimp := by
  have h := State.raised_settledAs s.exitLimp_eq rfl rfl
  rw [State.exitLimp_functions, State.exitLimp_link]
  exact h

/-- A valid frame that ends LIMP leaves what LIMP exit leaves: the timer stands at zero already (R166, R168). -/
theorem State.validFrame_of_limp {s : State} (h : s.link.limp = true) : s.validFrame = s.exitLimp := by
  have link : s.exitLimp.link = { s.exitLimp.link with timer := 0 } := by simp
  unfold State.validFrame
  rw [if_pos h]
  dsimp only
  rw [← link]

/-- A frame in LIMP is handed on as it is to the part that LIMP exit leaves (R162, R168). -/
theorem State.handOn_of_limp {s : State} (h : s.link.limp = true) (frame : Frame) (take : State → State × Reply) :
    s.handOn frame take = s.exitLimp.handOn frame take := by
  have again : s.exitLimp.validFrame = s.exitLimp := by
    rw [State.validFrame_of_not_limp _ (by simp)]
    have link : s.exitLimp.link = { s.exitLimp.link with timer := 0 } := by simp
    rw [← link]
  simp only [State.handOn, State.validFrame_of_limp h, again]

theorem exec_request_of_limp {i : Instr} {frame : Frame} {s : State} (hf : frameOf? i = some frame)
    (hp : s.powered = true) (hl : s.link.limp = true) : exec i s = exec i s.exitLimp := by
  obtain ⟨take, -, he⟩ := exec_request i frame hf
  simp [he, State.serve, State.whenPowered, hp, hf, State.handOn_of_limp hl]

end Sys2Proof.Machine

open Sys2Proof Sys2Proof.Machine

/-- Settles O9: the request is taken on the state that `State.exitLimp` leaves. -/
theorem firstFrameEndsLimp : Obligations.FirstFrameEndsLimp := by
  unfold Obligations.FirstFrameEndsLimp
  exact fun i frame s hf hp hl => ⟨s.exitLimp, exec_request_of_limp hf hp hl, s.exitLimp_link, s.exitLimp_fn,
    s.exitLimp_demandChange, s.exitLimp_settled⟩

/-- Settles O10: the command is `State.enterLimp`, whose parts are read off one by one. -/
theorem limpEntryReachesEveryBlock : Obligations.LimpEntryReachesEveryBlock := by
  unfold Obligations.LimpEntryReachesEveryBlock
  exact fun s hp hl ht => ⟨s.enterLimp, exec_limpEntry hp hl ht, s.enterLimp_link, s.enterLimp_linkLost, s.enterLimp_fn,
    s.enterLimp_demandChange, s.enterLimp_gauge, s.enterLimp_settled⟩

end

section
/-! SUPPORT. A served request in an attentive part: the state it is taken on, its refusal, and its write of one function's
record (R9, R16, R163). -/

namespace Sys2Proof.Machine

/-! ### Serving -/

/-- The state a request is taken on in an attentive part: the link timer at zero, its frame the served frame. -/
def State.heard (s : State) (frame : Frame) : State :=
  { s with link := { s.link with timer := 0, served := some frame } }

/-- A request command's meaning is the serving of its take. -/
theorem exec_of_take {i : Instr} {frame : Frame} {take : State → State × Reply} (hf : frameOf? i = some frame)
    (hk : takeRequest i = some take) (s : State) : exec i s = .next (s.serve i take) := by
  obtain ⟨take', hk', he⟩ := exec_request i frame hf
  obtain rfl := Option.some.inj (hk.symm.trans hk')
  exact he s

/-- An attentive part serves an accepted request: what the take leaves, with the link as serving leaves it. -/
theorem exec_accepted {s : State} {i : Instr} {frame : Frame} {take : State → State × Reply} {t : State}
    {fields : List Byte} (ha : s.attentive) (hf : frameOf? i = some frame) (hk : takeRequest i = some take)
    (ht : take (s.heard frame) = accept t fields) :
    exec i s = .next { t with link := s.linkAfter frame (u8 0 ++ fields) } := by
  have link : t.link = (s.heard frame).link := by
    have h := takeRequest_link i take hk (s.heard frame)
    rwa [ht] at h
  have served := State.serve_attentive s i take frame ha hf
  rw [show take { s with link := { s.link with timer := 0, served := some frame } } = accept t fields from ht] at served
  rw [exec_of_take hf hk, served]
  simp only [accept, link]
  rfl

/-- An attentive part answers a request that changes nothing. -/
theorem exec_answered {s : State} {i : Instr} {frame : Frame} {take : State → State × Reply} {payload : Reply}
    (ha : s.attentive) (hf : frameOf? i = some frame) (hk : takeRequest i = some take)
    (ht : take (s.heard frame) = (s.heard frame, payload)) : exec i s = .next (s.answered frame payload) := by
  rw [exec_of_take hf hk, State.serve_answered s i take frame payload ha hf ht]

/-! ### Operand codes -/

@[simp] theorem function?_idx (f : Fn) : function? f.idx.val = some f := by
  simp [function?, index?]

@[simp] theorem index?_val {n : Nat} (i : Fin n) : index? n i.val = some i := by
  simp [index?]

@[simp] theorem truth?_bit (b : Bool) : truth? (bit b 1) = some b := by cases b <;> rfl

@[simp] theorem sourceMode?_code (mode : SourceMode) : sourceMode? mode.code = some mode := by cases mode <;> rfl

theorem sourceMode?_ge {n : Nat} (h : 3 ≤ n) : sourceMode? n = none := by
  match n, h with
  | _ + 3, _ => rfl

/-! ### One function's write, served -/

/-- What has settled has settled whatever the link holds: no block's reaction reads it. -/
theorem State.settledAs.withLink {s t : State} (h : s.settledAs t) (l : Link) :
    ({ s with link := l } : State).settledAs { t with link := l } := by
  obtain ⟨same, fan, calls, conditions⟩ := h
  exact ⟨{ same with link := rfl }, fan, calls, conditions⟩

/-- Nor does a reaction read the reservation. -/
theorem State.settledAs.withReservation {s t : State} (h : s.settledAs t) (r : Option Fn) :
    ({ s with reservation := r } : State).settledAs { t with reservation := r } := by
  obtain ⟨same, fan, calls, conditions⟩ := h
  exact ⟨{ same with reservation := rfl }, fan, calls, conditions⟩

/-- A change of one function's record seen across a change of the link, the reservation and the settings but the fan's,
which are spoken of apart. -/
theorem State.sameBeyondFunction.across {s t : State} {f : Fn} {link : Link} {settings : Settings}
    (hs : settings.fan = s.settings.fan)
    (h : ({ s with link := link, settings := settings } : State).sameBeyondFunction t f) (l : Link) (r : Option Fn) :
    s.sameBeyondFunction { t with link := l, reservation := r } f := by
  refine ⟨h.others, ?_⟩
  have fan : ({ s with link := link, settings := settings } : State).fanAfterDemand t
      = s.fanAfterDemand { t with link := l, reservation := r } := by
    unfold State.fanAfterDemand
    rw [← hs]
    rfl
  rw [← fan]
  exact (h.settled.withLink l).withReservation r

/-- A function's record is written on a state that differs from another in the link and the settings alone: what that
leaves, the link and the reservation replaced by any (R9, R15, R16). -/
theorem State.writeFn_across (s : State) (link : Link) (settings : Settings) (hs : settings.fan = s.settings.fan)
    (f : Fn) (r : FnRecord) (l : Link) (reservation : Option Fn) :
    let w := ({ s with link := link, settings := settings } : State).writeFn f r
    let t : State := { w with link := l, reservation := reservation }
    t.fn f = r ∧ t.settings = settings ∧ t.event .demandChange = s.event .demandChange ∧ s.sameBeyondFunction t f := by
  intro w
  have wrote := State.writeFn_wrote { s with link := link, settings := settings } f r
  have same : ({ s with link := link, settings := settings } : State).sameBeyondFunction w f :=
    State.writeFn_same _ f r
  have kept : w.settings = settings := State.writeFn_settings _ f r
  obtain ⟨record, -, event, -, -⟩ := wrote
  change w.fn f = r at record
  change w.event .demandChange = s.event .demandChange at event
  clear_value w
  exact ⟨record, kept, event, same.across hs l reservation⟩

/-- An accepted request that writes one function's record, leaves a reservation of its own, and perhaps changes a setting
that the fan does not read. -/
theorem exec_writes_reserving {s : State} {i : Instr} {frame : Frame} {take : State → State × Reply}
    {settings : Settings} {f : Fn} {r : FnRecord} {fields : List Byte} {reservation : Option Fn} (ha : s.attentive)
    (hf : frameOf? i = some frame) (hk : takeRequest i = some take) (hs : settings.fan = s.settings.fan)
    (ht : take (s.heard frame) = accept
      { ({ s with link := (s.heard frame).link, settings := settings } : State).writeFn f r with
        reservation := reservation } fields) :
    ∃ t, exec i s = .next t ∧ t.fn f = r ∧ t.reservation = reservation
      ∧ t.link = s.linkAfter frame (u8 0 ++ fields) ∧ t.settings = settings
      ∧ t.event .demandChange = s.event .demandChange ∧ s.sameBeyondFunction t f := by
  have written := s.writeFn_across (s.heard frame).link settings hs f r (s.linkAfter frame (u8 0 ++ fields))
  have served := exec_accepted ha hf hk ht
  revert written served
  generalize State.writeFn _ f r = w
  intro written served
  obtain ⟨record, kept, event, same⟩ := written reservation
  exact ⟨_, served, record, rfl, rfl, kept, event, same⟩

/-- An accepted request that writes one function's record: a reservation on the function clears (R16). -/
theorem exec_writes {s : State} {i : Instr} {frame : Frame} {take : State → State × Reply} {settings : Settings}
    {f : Fn} {r : FnRecord} {fields : List Byte} (ha : s.attentive) (hf : frameOf? i = some frame)
    (hk : takeRequest i = some take) (hs : settings.fan = s.settings.fan)
    (ht : take (s.heard frame)
      = accept (({ s with link := (s.heard frame).link, settings := settings } : State).writeFn f r) fields) :
    ∃ t, exec i s = .next t ∧ t.fn f = r
      ∧ t.reservation = (if s.reservation = some f then none else s.reservation)
      ∧ t.link = s.linkAfter frame (u8 0 ++ fields) ∧ t.settings = settings
      ∧ t.event .demandChange = s.event .demandChange ∧ s.sameBeyondFunction t f := by
  have reserved := (State.writeFn_wrote { s with link := (s.heard frame).link, settings := settings } f r).2.1
  refine exec_writes_reserving ha hf hk hs ?_
  rw [ht, ← reserved]

/-! ### The takes of the requests on functions -/

/-- SET_DEMAND's and SET_DEMAND_IF's record, spelled out (R11). -/
theorem linkedRecord_eq (f : Fn) (r : FnRecord) (value : Nat) :
    linkedRecord f r value = ⟨r.switch, some (min value f.maxValue), min value f.maxValue, false⟩ := rfl

theorem State.linkWrite_eff (s : State) (f : Fn) (value : Nat) :
    (s.linkWrite f value).eff f = min value f.maxValue := by
  rw [State.eff, State.linkWrite, (State.writeFn_wrote _ _ _).1, linkedRecord_eq]

theorem takeSetDemand_accepts {s : State} {f : Fn} (h : s.mode f ≠ .switchOnly) (value : Nat) :
    takeSetDemand f.idx.val value s
      = accept (s.linkWrite f value) (u16 (min value f.maxValue) ++ u16 (min value f.maxValue)) := by
  simp [takeSetDemand, h, State.linkWrite_eff]

theorem takeSetDemand_refuses {s : State} {f : Fn} (h : s.mode f = .switchOnly) (value : Nat) :
    takeSetDemand f.idx.val value s = (s, u8 0x0A) := by
  simp [takeSetDemand, h, refuse, Status.code]

theorem takeSetDemandIf_stores {s : State} {f : Fn} (h : s.mode f ≠ .switchOnly) (hr : s.reservation = some f)
    (value : Nat) : takeSetDemandIf f.idx.val value s = accept { s.linkWrite f value with reservation := none }
      (u8 1 ++ u16 (min value f.maxValue) ++ u16 (min value f.maxValue)) := by
  simp [takeSetDemandIf, h, hr, State.linkWrite_eff]

theorem takeSetDemandIf_stores_not {s : State} {f : Fn} (h : s.mode f ≠ .switchOnly) (hr : s.reservation ≠ some f)
    (value : Nat) : takeSetDemandIf f.idx.val value s
      = accept { s with reservation := none } (u8 0 ++ u16 0xFFFF ++ u16 (s.fn f).effective) := by
  simp [takeSetDemandIf, h, hr, u16OrNone, State.eff]

theorem takeSetDemandIf_refuses {s : State} {f : Fn} (h : s.mode f = .switchOnly) (value : Nat) :
    takeSetDemandIf f.idx.val value s = (s, u8 0x0A) := by
  simp [takeSetDemandIf, h, refuse, Status.code]

theorem takeSetDemandIf_refuses_number {n : Nat} (h : 13 ≤ n) (value : Nat) (s : State) :
    takeSetDemandIf n value s = (s, u8 0x04) := by
  simp [takeSetDemandIf, function?_lt h, refuse, Status.code]

theorem takeReadDemand_eq (s : State) (f : Fn) (reserve : Bool) :
    takeReadDemand f.idx.val (bit reserve 1) s
      = accept { s with reservation := if reserve = true then some f else s.reservation }
        (u16 (s.fn f).switch ++ truth (s.fn f).link.isSome ++ u16OrNone (s.fn f).link ++ u8 (s.mode f).code
          ++ u16 (s.fn f).effective ++ truth (s.fn f).latch ++ truth (reserve || s.reservation == some f)) := by
  cases reserve <;> simp [takeReadDemand, State.fn, State.mode]

/-- RELEASE_DEMAND's record, spelled out for the modes it is taken in (R12). -/
theorem releasedRecord_eq (f : Fn) {mode : SourceMode} (h : mode ≠ .switchOnly) (r : FnRecord) :
    releasedRecord f mode r
      = ⟨r.switch, none, if mode = .shared then r.switch else f.restValue, false⟩ := by
  cases mode <;> simp_all [releasedRecord, modeEvaluation]

theorem takeReleaseDemand_accepts {s : State} {f : Fn} (h : s.mode f ≠ .switchOnly) :
    let back := if s.mode f = .shared then (s.fn f).switch else f.restValue
    takeReleaseDemand f.idx.val s = accept (s.writeFn f ⟨(s.fn f).switch, none, back, false⟩) (u16 back) := by
  simp [takeReleaseDemand, h, State.eff, (State.writeFn_wrote _ _ _).1, releasedRecord_eq f h]

theorem takeReleaseDemand_refuses {s : State} {f : Fn} (h : s.mode f = .switchOnly) :
    takeReleaseDemand f.idx.val s = (s, u8 0x0A) := by
  simp [takeReleaseDemand, h, refuse, Status.code]

theorem takeSetFunction_accepts (s : State) (f : Fn) (mode : SourceMode) :
    takeSetFunction f.idx.val mode.code s = accept ((s.withMode f mode).writeFn f (remodedRecord f mode (s.fn f)))
      (u8 mode.code ++ u16 (remodedRecord f mode (s.fn f)).effective) := by
  simp [takeSetFunction, State.eff, (State.writeFn_wrote _ _ _).1]

theorem takeSetFunction_refuses {n mode : Nat} (h : 13 ≤ n ∨ 3 ≤ mode) (s : State) :
    takeSetFunction n mode s = (s, u8 0x04) := by
  obtain h | h := h
  · simp [takeSetFunction, function?_lt h, refuse, Status.code]
  · cases hf : function? n <;> simp [takeSetFunction, hf, sourceMode?_ge h, refuse, Status.code]

end Sys2Proof.Machine

open Sys2Proof Sys2Proof.Machine

/-- Settles O17: SET_DEMAND is one served write of `linkedRecord`, or a refusal. -/
theorem setDemandWritesTheLinkValue : Obligations.SetDemandWritesTheLinkValue := by
  unfold Obligations.SetDemandWritesTheLinkValue
  refine fun s f value ha => ⟨fun hm => ?_, fun hm => ?_⟩
  · exact exec_writes ha rfl rfl rfl (takeSetDemand_accepts (s := s.heard _) hm value)
  · exact exec_answered ha rfl rfl (takeSetDemand_refuses (s := s.heard _) hm value)

/-- Settles O18: what READ_DEMAND and SET_DEMAND_IF answer and store, by the reservation and the mode. -/
theorem reservationGuardsAConditionalWrite : Obligations.ReservationGuardsAConditionalWrite := by
  unfold Obligations.ReservationGuardsAConditionalWrite
  refine fun s f value ha => ⟨fun reserve => ?_, fun hm hr => ?_, fun hm hr => ?_, fun hm => ?_, fun n hn => ?_⟩
  · rw [exec_accepted ha rfl rfl (takeReadDemand_eq (s.heard _) f reserve)]
    rfl
  · exact exec_writes_reserving ha rfl rfl rfl (takeSetDemandIf_stores (s := s.heard _) hm hr value)
  · rw [exec_accepted ha rfl rfl (takeSetDemandIf_stores_not (s := s.heard _) hm hr value)]
    rfl
  · exact exec_answered ha rfl rfl (takeSetDemandIf_refuses (s := s.heard _) hm value)
  · exact exec_answered ha rfl rfl (takeSetDemandIf_refuses_number hn value _)

/-- Settles O19: RELEASE_DEMAND and SET_FUNCTION are served writes of `releasedRecord` and `remodedRecord`. -/
theorem releaseAndModeRewriteTheFunction : Obligations.ReleaseAndModeRewriteTheFunction := by
  unfold Obligations.ReleaseAndModeRewriteTheFunction
  refine fun s f ha => ⟨fun hm => ?_, fun hm => ?_, fun mode => ?_, fun n mode h => ?_⟩
  · exact exec_writes ha rfl rfl rfl (takeReleaseDemand_accepts (s := s.heard _) hm)
  · exact exec_answered ha rfl rfl (takeReleaseDemand_refuses (s := s.heard _) hm)
  · intro link value
    have record : remodedRecord f mode (s.fn f) = ⟨(s.fn f).switch, link, value, (s.fn f).latch⟩ := by
      simp only [link, value, remodedRecord, modeEvaluation]
      cases mode <;> cases (s.fn f).link <;> rfl
    have accepts := takeSetFunction_accepts (s.heard ⟨0x14, u8 f.idx.val ++ u8 mode.code⟩) f mode
    have same : (s.heard ⟨0x14, u8 f.idx.val ++ u8 mode.code⟩).fn f = s.fn f := rfl
    rw [same, record] at accepts
    clear_value link value
    exact exec_writes ha rfl rfl rfl accepts
  · exact exec_answered ha rfl rfl (takeSetFunction_refuses h _)

end

section
/-! SUPPORT. The finding of a switch value as one statement, on a debounced edge and on behalf of the link (R5 to R7, R10, R15),
and the debounced edges themselves (R2, R3). -/

namespace Sys2Proof.Machine

/-! ### Events raised on a settled part -/

/-- A cause of an event that no reaction sets reaches a settled part and the state it settled from alike. -/
theorem State.settledAs.raise {s t : State} (h : s.settledAs t) (e : Event) (detail : Nat) (hc : e ≠ .chargeWarn)
    (hf : e ≠ .storeFail) : (s.raise e detail).settledAs (t.raise e detail) := by
  obtain ⟨same, fan, calls, conditions⟩ := h
  have warn := same.charge
  have store := same.store
  rw [← State.raise_event_of_ne t detail hc, ← State.raise_event_of_ne s detail hc] at warn
  simp only [← State.raise_event_of_ne t detail hf, ← State.raise_event_of_ne s detail hf] at store
  refine ⟨{ same with charge := warn, store := store, events := fun k hk hk' => ?_ }, fan, calls, conditions⟩
  by_cases hek : e = k
  · subst hek; simp
  · rw [State.raise_event_of_ne _ _ hek, State.raise_event_of_ne _ _ hek, same.events k hk hk']

/-- An event other than DEMAND_CHANGE is set along with the change of one function's record. -/
theorem State.sameBeyondFunction.raise {s t : State} {f : Fn} (h : s.sameBeyondFunction t f) (e : Event) (detail : Nat)
    (hd : e ≠ .demandChange) (hc : e ≠ .chargeWarn) (hf : e ≠ .storeFail) :
    ({ s with events := s.events.set e.idx ⟨true, detail⟩ } : State).sameBeyondFunction (t.raise e detail) f := by
  refine ⟨h.others, ?_⟩
  have settled := h.settled.raise e detail hc hf
  have commute : (s.events.set Event.demandChange.idx (t.event .demandChange)).set e.idx ⟨true, detail⟩
      = (s.events.set e.idx ⟨true, detail⟩).set Event.demandChange.idx ((t.raise e detail).event .demandChange) := by
    rw [State.raise_event_of_ne _ _ hd, Vector.set_comm]
    exact fun hn => Event.idx_ne hd (Fin.ext hn).symm
  simp only [State.raise, commute] at settled
  exact settled

/-- DEMAND_CHANGE is set where the change of one function's record has changed its effective value (R15). -/
theorem State.sameBeyondFunction.raiseIfChanged {s t : State} {f : Fn} (h : s.sameBeyondFunction t f) :
    s.sameBeyondFunction (t.raiseIfChanged s f) f := by
  unfold State.raiseIfChanged
  split
  · exact h
  · refine ⟨h.others, ?_⟩
    have settled := h.settled.raise .demandChange f.idx.val (by decide) (by decide)
    rw [State.raise_event]
    simp only [State.raise, Vector.set_set] at settled
    exact settled

theorem State.raiseIfChanged_fn (s before : State) (f g : Fn) : (s.raiseIfChanged before f).fn g = s.fn g := by
  simp only [State.fn, State.raiseIfChanged_functions]

theorem State.raiseIfChanged_demandChange (s before : State) (f : Fn) :
    (s.raiseIfChanged before f).event .demandChange
      = if s.eff f = before.eff f then s.event .demandChange else ⟨true, f.idx.val⟩ := by
  unfold State.raiseIfChanged
  split <;> simp

/-! ### The finding of a switch value -/

/-- Where the switch value alone changes, the rest of the record is as it was (R10). -/
theorem movedRecord_of_held (f : Fn) {mode : SourceMode} {r : FnRecord} (hm : mode = .linkOnly)
    (hl : r.latch = false) (value : Nat) : movedRecord f mode r value = { r with switch := value } := by
  simp [movedRecord, hm, hl]

/-- A switch value found on behalf of the link (R7, R10). -/
theorem State.switchTo_found (s : State) (f : Fn) (value : Nat) : s.switchFound (s.switchTo f value) f value false := by
  unfold State.switchFound
  obtain ⟨hv, e⟩ | ⟨hv, hm, hl, e⟩ | ⟨hv, hm, e⟩ := s.switchTo_cases f value
  · rw [if_pos hv, e]
  · rw [if_neg hv, if_pos ⟨hm, hl⟩, e, movedRecord_of_held f hm hl]
    rfl
  · rw [if_neg hv, if_neg hm, e]
    obtain ⟨record, reserved, event, -, -⟩ := s.writeFn_wrote f (movedRecord f (s.behaves f) (s.fn f) value)
    exact ⟨record, reserved, by rw [event, if_pos (.inl rfl)], s.writeFn_same f _, by simp, by simp⟩

/-- A switch value found by a debounced input (R5, R6, R10, R15). -/
theorem State.switchByEdge_found (s : State) (f : Fn) (value : Nat) :
    s.switchFound (s.switchByEdge f value) f value true := by
  unfold State.switchFound State.switchByEdge
  obtain ⟨hv, e⟩ | ⟨hv, hm, hl, e⟩ | ⟨hv, hm, e⟩ := s.switchTo_cases f value
  · rw [if_pos hv, e]
    simp [State.raiseIfChanged]
  · rw [if_neg hv, if_pos ⟨hm, hl⟩, e, movedRecord_of_held f hm hl]
    have same : (s.setFn f { s.fn f with switch := value }).eff f = s.eff f := by simp [State.eff]
    rw [State.raiseIfChanged, if_pos same]
    rfl
  · rw [if_neg hv, if_neg hm, e]
    obtain ⟨record, reserved, event, -, -⟩ := s.writeFn_wrote f (movedRecord f (s.behaves f) (s.fn f) value)
    have same := s.writeFn_same f (movedRecord f (s.behaves f) (s.fn f) value)
    have settings := s.writeFn_settings f (movedRecord f (s.behaves f) (s.fn f) value)
    have link := s.writeFn_link f (movedRecord f (s.behaves f) (s.fn f) value)
    generalize s.writeFn f (movedRecord f (s.behaves f) (s.fn f) value) = w at *
    refine ⟨by rw [State.raiseIfChanged_fn, record], by rw [State.raiseIfChanged_reservation, reserved], ?_,
      same.raiseIfChanged, by rw [State.raiseIfChanged_settings, settings], by rw [State.raiseIfChanged_link, link]⟩
    have eff : (w.raiseIfChanged s f).eff f = w.eff f := by rw [State.eff, State.raiseIfChanged_fn]; rfl
    rw [State.raiseIfChanged_demandChange, event, eff]
    simp

/-! ### Debounced edges -/

/-- An input that has settled: its debounced state is its raw level's, its count the debounce time at least (R2). -/
def State.settledInput (s : State) (i : Fin 12) : Input :=
  { s.input i with
    debounced := if s.raw i = true then .active else .inactive
    count := max (s.input i).count (s.binding i).debounce }

/-- The part with an input that has settled, before its function is found a switch value. -/
def State.withSettled (s : State) (i : Fin 12) : State := s.setInput i (s.settledInput i)

@[simp] theorem State.withSettled_input (s : State) (i : Fin 12) : (s.withSettled i).input i = s.settledInput i :=
  s.setInput_input i _

theorem State.withSettled_input_of_ne (s : State) {i j : Fin 12} (h : j ≠ i) :
    (s.withSettled i).input j = s.input j :=
  s.setInput_input_of_ne _ h.symm

/-- An input whose count shows that the debounce time has passed (R2). -/
def State.countedInput (s : State) (i : Fin 12) : Input :=
  { s.input i with count := max (s.input i).count (s.binding i).debounce }

theorem State.setInput_again (s : State) (i : Fin 12) (x y : Input) :
    (s.setInput i x).setInput i y = s.setInput i y := by
  simp [State.setInput]

/-- A debounce expiry is the taking of the raw level's debounced state, the count first (R2). -/
theorem State.expireDebounce_eq (s : State) (i : Fin 12) : s.expireDebounce i
    = (s.setInput i (s.countedInput i)).debounceTo i (if s.raw i = true then .active else .inactive) := by
  have raw : (s.setInput i (s.countedInput i)).raw i = s.raw i := by simp [State.raw, State.countedInput]
  rw [← settledState_eq, ← raw]
  rfl

/-- What a press finds, spelled out (R6). -/
theorem pressedValue_eq (f : Fn) {b : Binding} (h : b.action ≠ .level) (switch : Nat) : pressedValue f b switch
    = if b.action = .toggle then (if switch = 0 then b.level else 0) else (switch + 1) % (f.maxValue + 1) := by
  unfold pressedValue
  cases ha : b.action <;> simp_all

/-- What a debounce expiry does, said once: the input settles, and where it holds its raw level already, is unbound, or
is a TOGGLE or STEP that is not pressed, nothing follows; otherwise a switch value is found (R2, R3, R5, R6). -/
theorem State.expireDebounce_cases (s : State) (i : Fin 12) :
    (((s.input i).debounced = (if s.raw i = true then .active else .inactive)
        ∨ (s.binding i).function = none ∨ ((s.binding i).action ≠ .level
          ∧ ¬ ((s.input i).debounced = .inactive ∧ s.raw i = true)))
      ∧ s.expireDebounce i = s.withSettled i)
    ∨ (∃ f, (s.input i).debounced ≠ (if s.raw i = true then .active else .inactive)
      ∧ (s.binding i).function = some f ∧ (s.binding i).action = .level
      ∧ s.expireDebounce i = (s.withSettled i).switchByEdge f ((s.withSettled i).levelEvaluation f))
    ∨ (∃ f, (s.binding i).function = some f ∧ (s.binding i).action ≠ .level
      ∧ (s.input i).debounced = .inactive ∧ s.raw i = true
      ∧ s.expireDebounce i
        = (s.withSettled i).switchByEdge f (pressedValue f (s.binding i) (s.fn f).switch)) := by
  have settles : (if s.raw i = true then Debounced.active else .inactive) = .active ↔ s.raw i = true := by simp
  rw [State.expireDebounce_eq]
  have cases := State.debounceTo_cases (s.setInput i (s.countedInput i)) i
    (if s.raw i = true then .active else .inactive)
  simp only [State.setInput_input, State.setInput_binding, State.setInput_fn, State.setInput_again, settles] at cases
  obtain ⟨held, e⟩ | ⟨-, idle, e⟩ | ⟨f, moved, bound, level, e⟩ | ⟨f, bound, press, was, now, e⟩ := cases
  · refine .inl ⟨.inl held, ?_⟩
    rw [e, State.withSettled, State.settledInput, ← held]
    rfl
  · exact .inl ⟨.inr idle, e⟩
  · exact .inr (.inl ⟨f, moved, bound, level, e⟩)
  · exact .inr (.inr ⟨f, bound, press, was, now, e⟩)

/-- Only the inputs differ once an input has settled. -/
theorem State.withSettled_eq (s : State) (i : Fin 12) :
    s.withSettled i = { s with inputs := (s.withSettled i).inputs } := rfl

/-- What is found of a settled input is found with the inputs it leaves. -/
theorem State.withSettled_found {s : State} {i : Fin 12} {t : State} {f : Fn} {value : Nat}
    (h : t = (s.withSettled i).switchByEdge f value) :
    t.inputs = (s.withSettled i).inputs
    ∧ ({ s with inputs := t.inputs } : State).switchFound t f value true := by
  have inputs : t.inputs = (s.withSettled i).inputs := by rw [h, State.switchByEdge_inputs]
  refine ⟨inputs, ?_⟩
  rw [inputs, ← State.withSettled_eq, h]
  exact State.switchByEdge_found _ f value

/-- The inputs that a settled input leaves: it alone has changed. -/
theorem State.inputs_of_settled {s t : State} {i : Fin 12} (h : t.inputs = (s.withSettled i).inputs) :
    t.input i = s.settledInput i ∧ ∀ j, j ≠ i → t.input j = s.input j := by
  have e : ∀ j, t.input j = (s.withSettled i).input j := fun j => by simp only [State.input, h]
  exact ⟨by rw [e, State.withSettled_input], fun j hj => by rw [e, s.withSettled_input_of_ne hj]⟩

end Sys2Proof.Machine

open Sys2Proof Sys2Proof.Machine

/-- Settles O21: the LEVEL edge finds the LEVEL evaluation of the part with the input settled. -/
theorem levelEdgeEvaluatesItsFunction : Obligations.LevelEdgeEvaluatesItsFunction := by
  unfold Obligations.LevelEdgeEvaluatesItsFunction
  intro s i f hp bound level moved
  obtain ⟨idle, -⟩ | ⟨g, -, hg, -, e⟩ | ⟨g, -, press, -⟩ := s.expireDebounce_cases i
  · simp [bound, level, moved] at idle
  · obtain rfl : f = g := Option.some.inj (bound.symm.trans hg)
    obtain ⟨inputs, found⟩ := State.withSettled_found e
    obtain ⟨own, others⟩ := State.inputs_of_settled inputs
    refine ⟨_, _, exec_debounceExpiry hp i, own, others, ?_, found⟩
    rw [inputs, ← State.withSettled_eq]
    exact State.levelValue_largest _ f none _ (by simp)
  · exact absurd level press

/-- Settles O22: a press finds the pressed value; without one the input settles alone. -/
theorem pressMovesItsFunction : Obligations.PressMovesItsFunction := by
  unfold Obligations.PressMovesItsFunction
  refine fun s i hp => ⟨fun f bound press was active => ?_, fun idle => ?_⟩
  · obtain ⟨idle, -⟩ | ⟨g, -, -, level, -⟩ | ⟨g, hg, -, -, -, e⟩ := s.expireDebounce_cases i
    · simp [bound, press, was, active] at idle
    · exact absurd level press
    · obtain rfl : f = g := Option.some.inj (bound.symm.trans hg)
      obtain ⟨inputs, found⟩ := State.withSettled_found e
      obtain ⟨own, others⟩ := State.inputs_of_settled inputs
      refine ⟨_, exec_debounceExpiry hp i, ?_, others, ?_⟩
      · rw [own, State.settledInput, if_pos active]
      · rw [← pressedValue_eq f press]
        exact found
  · obtain ⟨-, e⟩ | ⟨f, moved, bound, level, -⟩ | ⟨f, bound, press, was, active, -⟩ := s.expireDebounce_cases i
    · obtain ⟨own, others⟩ := State.inputs_of_settled (t := s.expireDebounce i) (by rw [e])
      exact ⟨_, exec_debounceExpiry hp i, own, others, by rw [e, ← State.withSettled_eq]⟩
    · simp [bound, level, moved] at idle
    · simp [bound, was, active] at idle

end

section
/-! SUPPORT. What each read answers, field by field in the order of R176, and what its clear option changes. -/

namespace Sys2Proof.Machine

theorem u8_ok : u8 Status.ok.code = u8 0 := rfl

theorem takeReadInputs_eq (s : State) (i : Fin 12) : takeReadInputs i.val s = (s,
    u8 0 ++ (List.finRange 12).flatMap (fun j => truth (s.raw j))
      ++ (List.finRange 12).flatMap (fun j => u8 (s.input j).debounced.code)
      ++ u8OrNone ((s.binding i).function.map fun f => f.idx.val) ++ u8 (s.binding i).action.code
      ++ u16 (s.binding i).level ++ u8 (s.binding i).polarity.code ++ u8 (s.binding i).debounce) := by
  simp only [takeReadInputs, index?_val, accept, bindingBytes, u8_ok, List.append_assoc]

theorem takeReadMap_eq (s : State) (e : Fin 16) : takeReadMap e.val s = (s,
    u8 0 ++ u8 (s.mapEntry e).role.idx.val ++ u8 (s.mapEntry e).first.val ++ u8 (s.mapEntry e).last.val
      ++ truth (s.mapEntry e).enabled ++ truth (s.roleActive (s.mapEntry e).role)
      ++ u8 (s.shedClass (s.mapEntry e).role)
      ++ truth (decide (s.supply.state.shedLevel ≤ s.shedClass (s.mapEntry e).role))) := by
  simp only [takeReadMap, index?_val, accept, mapEntryBytes, State.roleShed, u8_ok, List.append_assoc]

/-- A composed demand as a reply carries it: none and flash with a duty of 0 (log 37). -/
def Demand.bytes : Demand → List Byte
  | .none => u8 0 ++ u16 0
  | .steady d => u8 1 ++ u16 d
  | .flash => u8 2 ++ u16 0

theorem Demand.bytes_eq (d : Demand) : d.bytes = u8 d.code ++ u16 d.duty := by cases d <;> rfl

theorem takeReadChannel_eq (s : State) (c : Fin 16) : takeReadChannel c.val s = (s,
    u8 0 ++ u8 (s.channel c).state.code ++ u16 (s.dutyNow c) ++ u16 (s.channel c).current
      ++ truth (s.channel c).openFlag ++ u8 (s.channel c).tripCount ++ (s.composedDemand c).bytes
      ++ truth (s.receiving c) ++ truth (s.carrying c) ++ u8 (s.channelConfig c).profile.code
      ++ u16 (s.channelConfig c).inrushWindow ++ u16 (s.channelConfig c).pullIn ++ u16 (s.channelConfig c).holdDuty
      ++ u16 (s.channelConfig c).runLimit ++ u16 (s.channelConfig c).inrushLimit
      ++ u16 (s.channelConfig c).openThreshold
      ++ u8OrNone ((s.channelConfig c).substitute.map fun x => x.val)) := by
  simp only [takeReadChannel, index?_val, accept, channelConfigBytes, Demand.bytes_eq, u8_ok, List.append_assoc]

theorem takeReadFlasher_eq (s : State) : takeReadFlasher s = (s,
    u8 0 ++ u8 s.flasher.cadence.code ++ u16 s.flasher.phaseTimer ++ u16 s.flasher.phaseLength
      ++ truth s.flasher.doubled ++ u8 (bit (s.sideActive .left) 1 + bit (s.sideActive .right) 2)
      ++ u8 (bit (s.throughIndicator .left) 1 + bit (s.throughIndicator .right) 2) ++ u8 s.settings.flashRate
      ++ u16 s.settings.runOnLimit ++ u32 (s.flasher.leftRunOn.getD 0) ++ u32 (s.flasher.rightRunOn.getD 0)) := by
  simp only [takeReadFlasher, accept, sidesCode, u8_ok, List.append_assoc]

theorem takeReadSender_eq (s : State) (n : Fin 4) : takeReadSender n.val s = (s,
    u8 0 ++ truth (s.sender n).latest.isSome ++ u16 ((s.sender n).latest.getD 0) ++ u8 (bandCode (s.sender n).band)
      ++ u8 (s.sender n).runCount ++ u8 (s.sender n).state.code ++ u16 (s.senderConfig n).shortAt
      ++ u16 (s.senderConfig n).openAt) := by
  simp only [takeReadSender, index?_val, accept, u8_ok, List.append_assoc]

theorem takeReadFan_eq (s : State) : takeReadFan s = (s,
    u8 0 ++ u8 s.fan.state.code ++ u16 s.fan.dutyNow ++ u8 s.fan.targetStep ++ u16 s.fanTarget ++ u16 s.fanCap
      ++ truth s.fan.settle.isSome ++ u16 (s.fan.settle.getD 0) ++ u16 s.fan.current ++ u8 s.fan.stallCount
      ++ truth s.fan.openFlag ++ u16 s.fan.waitTimer ++ u16 0 ++ u16 s.settings.fan.duty1
      ++ u16 s.settings.fan.duty2 ++ u16 s.settings.fan.duty3 ++ u16 s.settings.fan.rampStep
      ++ u16 s.settings.fan.settleWindow ++ u16 s.settings.fan.stallLimit ++ truth s.settings.fan.ignitionFed) := by
  simp only [takeReadFan, accept, fanConfigBytes, FanConfig.stepDuty, u8_ok, List.append_assoc]

/-- What TABLE_READ answers for the point at an index, or for none (R158). -/
def pointBytes (points : Table) : Option Point → Reply
  | some q => u8 0 ++ u16 q.x ++ u16 q.y ++ u8 points.length
  | none => u8 0x04

theorem takeTableRead_eq (s : State) (p : Fin 8) (index : Nat) :
    takeTableRead p.val index s = (s, pointBytes s.tables[p] s.tables[p][index]?) := by
  cases h : s.tables[p][index]? <;> simp only [takeTableRead, index?_val, h] <;>
    simp only [accept, refuse, pointBytes, Status.code, List.append_assoc]

/-- The valid marks as a reply carries them, T0 to T7 and then S (R159). -/
theorem Store.validMarks_bytes (st : Store) : st.validMarks.flatMap truth
    = (List.finRange 8).flatMap (fun p => truth (st.tablePages[p]).isSome) ++ truth st.settingsPage.isSome := by
  have pages : st.tablePages.toList = (List.finRange 8).map fun p => st.tablePages[p] := by
    apply List.ext_getElem <;> simp
  simp [Store.validMarks, pages, List.flatMap_append, List.flatMap_map]

theorem takeReadStore_eq (s : State) : takeReadStore s = (s,
    u8 0 ++ truth s.store.programming.isSome ++ u8OrNone (s.store.programming.map fun p => p.image.page.val)
      ++ (List.finRange 8).flatMap (fun p => truth (s.store.tablePages[p]).isSome)
      ++ truth s.store.settingsPage.isSome ++ u8OrNone (s.store.failure.map fun f => f.page.val)
      ++ u8OrNone (s.store.failure.map fun f => f.cause.code) ++ u8OrNone (s.store.staging.map fun b => b.table.val)
      ++ u8OrNone (s.store.staging.map fun b => b.pointer)
      ++ u8OrNone (s.store.staging.map fun b => b.length)) := by
  simp only [takeReadStore, accept, Store.validMarks_bytes, u8_ok, List.append_assoc]

theorem DriverState.code_eq (d : DriverState) : d.code = bit (decide (d = .waiting)) 1 := by cases d <;> rfl

theorem Gauge.drv_eq (g : Gauge) : g.drv = decide (g.driver = .waiting) := by
  unfold Gauge.drv
  cases g.driver <;> rfl

theorem takeReadGauge_eq (s : State) (g : Fin 4) (clear : Bool) :
    let x := s.gauge g
    let k := s.gaugeConfig g
    let waits := decide (x.driver = .waiting)
    takeReadGauge g.val (bit clear 1) s = accept
      { s with gauges := if clear = true then s.gauges.set g { x with sum := false } else s.gauges }
      (u8OrNone (k.binding.map fun n => n.val) ++ u8 k.law.code ++ u16 k.k ++ u8 k.policy.code
        ++ u16 x.linkPosition ++ u16 x.target ++ u16 x.filtered ++ u16 x.required ++ u16 x.duty
        ++ u8 (bit x.low 1 + bit x.high 2 + bit x.sat 4 + bit x.fault 8 + bit waits 16 + bit x.sum 32)
        ++ u8 (bit waits 1) ++ u16 (if waits = true ∨ x.duty = 0 then 0 else x.driverSample)) := by
  cases clear <;>
    simp [takeReadGauge, State.gaugeBytes, State.setGauge, Gauge.flagsByte, Gauge.drv_eq, DriverState.code_eq,
      Gauge.driverCurrent]

theorem takeReadSupply_eq (s : State) (clear : Bool) :
    let p := s.supply
    let k := s.settings.supply
    takeReadSupply (bit clear 1) s = accept
      { s with supply := if clear = true then { p with lowSeen := false, minBat := p.batMean } else p }
      (u8 p.state.code ++ truth p.batMean.isSome ++ u16 (p.batMean.getD 0) ++ u16 (p.dynMean.getD 0)
        ++ u32 p.totalLoad ++ truth p.charge ++ truth s.storeCondition ++ truth p.armed
        ++ [p.timers.lean, p.timers.budget, p.timers.recovery, p.timers.shed, p.timers.unshed, p.timers.crankExit,
            p.timers.crankLimit].flatMap (fun t => u16 (t.seconds * 1000 + t.slots * 10))
        ++ truth p.lowSeen ++ u16OrNone p.minBat ++ u8 k.cls.code ++ u16 k.lean ++ u16 k.shed ++ u16 k.crankEnter
        ++ u16 k.crankExit ++ u16 k.hysteresis ++ u16 k.chargeMargin ++ u16 k.storeMinimum ++ u16 k.budget) := by
  cases clear <;>
    simp only [takeReadSupply, truth?_bit, State.supplyBytes, SupplyTimers.bytes, SupplyTimer.elapsed,
      supplyConfigBytes, List.flatMap_cons, List.flatMap_nil, List.append_assoc, List.append_nil] <;> rfl

end Sys2Proof.Machine

open Sys2Proof Sys2Proof.Machine

/-- Settles O28: each read is answered by its take's equation, and the two clear options are accepted changes. -/
theorem readsAnswerWhatTheStateShows : Obligations.ReadsAnswerWhatTheStateShows := by
  unfold Obligations.ReadsAnswerWhatTheStateShows
  refine ⟨fun s ha => ⟨fun i => ?_, fun e => ?_, fun c => ?_, ?_⟩,
    fun s ha => ⟨fun n => ?_, ?_, fun p index => ?_, ?_, fun g clear => ?_, fun clear => ?_⟩⟩
  · exact exec_answered ha rfl rfl (takeReadInputs_eq (s.heard _) i)
  · exact exec_answered ha rfl rfl (takeReadMap_eq (s.heard _) e)
  · exact exec_answered ha rfl rfl (takeReadChannel_eq (s.heard _) c)
  · exact exec_answered ha rfl rfl (takeReadFlasher_eq (s.heard _))
  · exact exec_answered ha rfl rfl (takeReadSender_eq (s.heard _) n)
  · exact exec_answered ha rfl rfl (takeReadFan_eq (s.heard _))
  · exact exec_answered ha rfl rfl (takeTableRead_eq (s.heard _) p index)
  · exact exec_answered ha rfl rfl (takeReadStore_eq (s.heard _))
  · refine (exec_accepted ha rfl rfl (takeReadGauge_eq (s.heard _) g clear)).trans ?_
    simp only [← List.append_assoc]
    rfl
  · refine (exec_accepted ha rfl rfl (takeReadSupply_eq (s.heard _) clear)).trans ?_
    simp only [← List.append_assoc]
    rfl

end

section
/-! SUPPORT. The run-on limit: what cancelling a side leaves, and what a reaction leaves of a part that follows its calls and
conditions already (R14, R77, R79, R80). -/

namespace Sys2Proof.Machine

/-! ### Cancelling a side -/

/-- The detail of IND_TIMEOUT for a side (R77). -/
def sideDetail : Side → Nat
  | .left => 0
  | .right => 1

theorem State.cancelSide_eq (s : State) (side : Side) : s.cancelSide side
    = ((s.writeFn (indicatorFn side) (cancelledRecord (s.fn (indicatorFn side)))).raiseIfChanged s
      (indicatorFn side)).raise .indTimeout (sideDetail side) := by
  cases side <;> rfl

theorem State.cancelledAs_iff (s t : State) (side : Side) : s.cancelledAs t side ↔
    t.fn (indicatorFn side) = ⟨(s.fn (indicatorFn side)).switch, none, 0, true⟩
    ∧ t.reservation = (if s.reservation = some (indicatorFn side) then none else s.reservation)
    ∧ t.event .demandChange = (if s.eff (indicatorFn side) = 0 then s.event .demandChange
      else ⟨true, (indicatorFn side).idx.val⟩)
    ∧ ({ s with events := s.events.set Event.indTimeout.idx ⟨true, sideDetail side⟩ } : State).sameBeyondFunction t
      (indicatorFn side)
    ∧ t.runOn side = none ∧ t.settings = s.settings ∧ t.link = s.link := by
  cases side <;> exact Iff.rfl

theorem indicatorFn_ne {side other : Side} (h : side ≠ other) : indicatorFn other ≠ indicatorFn side := by
  cases side <;> cases other <;> simp_all [indicatorFn]

theorem ign_ne_indicatorFn (side : Side) : Fn.ign ≠ indicatorFn side := by cases side <;> decide

theorem fan_ne_indicatorFn (side : Side) : Fn.fan ≠ indicatorFn side := by cases side <;> decide

/-- A settled part has no run-on timer on a side whose indicator is not 1 (R76). -/
theorem State.settledAs.runOn_none {s t : State} (h : s.settledAs t) {side : Side}
    (he : t.eff (indicatorFn side) ≠ 1) : t.runOn side = none := by
  rw [h.same.runOn side, if_neg]
  simp [State.runOnRuns, State.throughIndicator, he]

/-- The run-on limit cancels a side, whatever the part (R14, R15, R77). -/
theorem State.cancelSide_cancelledAs (s : State) (side : Side) : s.cancelledAs (s.cancelSide side) side := by
  rw [State.cancelledAs_iff, State.cancelSide_eq]
  obtain ⟨record, reserved, event, -, -⟩ :=
    s.writeFn_wrote (indicatorFn side) (cancelledRecord (s.fn (indicatorFn side)))
  have same := s.writeFn_same (indicatorFn side) (cancelledRecord (s.fn (indicatorFn side)))
  have settings := s.writeFn_settings (indicatorFn side) (cancelledRecord (s.fn (indicatorFn side)))
  have link := s.writeFn_link (indicatorFn side) (cancelledRecord (s.fn (indicatorFn side)))
  generalize s.writeFn (indicatorFn side) (cancelledRecord (s.fn (indicatorFn side))) = w at *
  have raised := same.raiseIfChanged.raise .indTimeout (sideDetail side) (by decide) (by decide) (by decide)
  have own : ((w.raiseIfChanged s (indicatorFn side)).raise .indTimeout (sideDetail side)).fn (indicatorFn side)
      = cancelledRecord (s.fn (indicatorFn side)) := (State.raiseIfChanged_fn _ _ _ _).trans record
  have zero : w.eff (indicatorFn side) = 0 := by rw [State.eff, record]; rfl
  refine ⟨own, ?_, ?_, raised, raised.settled.runOn_none (by simp [State.eff, own, cancelledRecord]), ?_, ?_⟩
  · rw [State.raise_reservation, State.raiseIfChanged_reservation, reserved]
  · rw [State.raise_event_of_ne _ _ (by decide), State.raiseIfChanged_demandChange, event, zero]
    simp only [eq_comm]
  · rw [State.raise_settings, State.raiseIfChanged_settings, settings]
  · rw [State.raise_link, State.raiseIfChanged_link, link]

/-- Cancelling a side is the same whatever the link holds. -/
theorem State.cancelledAs.withLink {s t : State} {side : Side} (h : s.cancelledAs t side) (l : Link) :
    ({ s with link := l } : State).cancelledAs { t with link := l } side := by
  rw [State.cancelledAs_iff] at h ⊢
  obtain ⟨record, reserved, event, same, timer, settings, -⟩ := h
  exact ⟨record, reserved, event, ⟨same.others, same.settled.withLink l⟩, timer, settings, rfl⟩

/-- The run-on timer of the other side goes on as it was while a side is cancelled (R76). -/
theorem State.cancelledAs.runOn_other {s t : State} {side other : Side} (h : s.cancelledAs t side) (hs : side ≠ other)
    (hd : (s.runOn other).isSome = s.runOnRuns other) : t.runOn other = s.runOn other := by
  obtain ⟨-, -, -, same, -, settings, -⟩ := (s.cancelledAs_iff t side).1 h
  have eff : ∀ f, f ≠ indicatorFn side → t.eff f = s.eff f := fun f hf => congrArg FnRecord.effective (same.others f hf)
  have runs : t.runOnRuns other = s.runOnRuns other := by
    simp only [State.runOnRuns, State.throughIndicator, eff _ (indicatorFn_ne hs), eff _ (ign_ne_indicatorFn side),
      settings]
  have timer : t.runOn other = if t.runOnRuns other = true then some ((s.runOn other).getD 0) else none :=
    same.settled.same.runOn other
  rw [timer, runs, ← hd]
  cases s.runOn other <;> rfl

/-! ### A part that follows already -/

theorem Fan.follow_of_off {f : Fan} (hs : f.state = .off) (step : Nat) : f.follow step 0 = f := by
  simp [Fan.follow, hs]

theorem Fan.follow_of_ramp {f : Fan} {target : Nat} (hs : f.state = .ramp) (h : f.dutyNow < target) (step : Nat) :
    f.follow step target = f := by
  simp [Fan.follow, hs, Nat.not_le.2 h, Nat.ne_zero_of_lt h]

theorem Fan.follow_of_run {f : Fan} {target : Nat} (hs : f.state = .run) (h : f.dutyNow = target) (ht : 0 < target)
    (step : Nat) : f.follow step target = f := by
  simp [Fan.follow, hs, h, Nat.ne_of_gt ht]
  simp [← hs, ← h]

/-- A fan that has just entered RAMP, or RUN at its first step, is where its target duty wants it (R124). -/
theorem Fan.follow_enterRamp (f : Fan) (step : Nat) {target : Nat} (ht : 0 < target) :
    (f.enterRamp step target).follow step target = f.enterRamp step target := by
  unfold Fan.enterRamp Fan.rampStep
  split
  · exact Fan.follow_of_run rfl rfl ht step
  · exact Fan.follow_of_ramp rfl (by simp only [not_le] at *; assumption) step

/-- Following a target duty twice is following it once (R124). -/
theorem Fan.follow_follow (f : Fan) (step target : Nat) :
    (f.follow step target).follow step target = f.follow step target := by
  have waits : ∀ g : Fan, (g.state = .stallWait ∨ g.state = .stallLock) → g.follow step target = g := by
    rintro g (h | h) <;> simp [Fan.follow, h]
  cases hs : f.state
  case off =>
    by_cases ht : 0 < target
    · have e : f.follow step target = ({ f with dutyNow := 0 } : Fan).enterRamp step target := by
        simp [Fan.follow, hs, ht]
      rw [e, Fan.follow_enterRamp _ _ ht]
    · obtain rfl : target = 0 := by omega
      rw [Fan.follow_of_off hs, Fan.follow_of_off hs]
  case ramp =>
    rcases Nat.eq_zero_or_pos target with rfl | ht
    · have e : f.follow step 0 = f.stopIn .off := by simp [Fan.follow, hs]
      rw [e, Fan.follow_of_off rfl]
    · by_cases hd : target ≤ f.dutyNow
      · have e : f.follow step target = { f.rampStopped with dutyNow := target, state := .run } := by
          simp [Fan.follow, hs, Nat.ne_of_gt ht, hd]
        rw [e, Fan.follow_of_run rfl rfl ht]
      · rw [Fan.follow_of_ramp hs (by omega), Fan.follow_of_ramp hs (by omega)]
  case run =>
    rcases Nat.eq_zero_or_pos target with rfl | ht
    · have e : f.follow step 0 = f.stopIn .off := by simp [Fan.follow, hs]
      rw [e, Fan.follow_of_off rfl]
    · by_cases hd : f.dutyNow < target
      · have e : f.follow step target = f.enterRamp step target := by
          simp [Fan.follow, hs, Nat.ne_of_gt ht, hd]
        rw [e, Fan.follow_enterRamp _ _ ht]
      · have e : f.follow step target = { f with dutyNow := target } := by
          simp [Fan.follow, hs, Nat.ne_of_gt ht, hd]
        rw [e, Fan.follow_of_run (f := { f with dutyNow := target }) hs rfl ht]
  case stallWait => rw [waits f (.inl hs), waits f (.inl hs)]
  case stallLock => rw [waits f (.inr hs), waits f (.inr hs)]

/-- A channel that agrees with its call stays as it is (R46, R52). -/
theorem Channel.follow_of_followed {x : Channel} {called : Bool} (hc : x.state.conducting = true → called = true)
    (ho : x.state = .off → called = false) (profile : Profile) : x.follow profile called = x := by
  unfold Channel.follow
  split
  · rw [if_neg]; simp [ho (by assumption)]
  · split
    · rw [if_pos (hc (by assumption))]
    · rfl

theorem State.flasherFollow_of_followed {s : State} (hc : s.CallsFollowed) (hd : s.ConditionsFollowed)
    (ha : s.anySide = true) : s.flasherFollow = s := by
  obtain ⟨-, cadence⟩ := hc
  obtain ⟨-, left, right, -⟩ := hd
  have runs : s.flasher.cadence ≠ .idle := fun h => by simp [cadence.1 h] at ha
  have timer : ∀ run b, Option.isSome run = b → followTimer b run = run := by
    rintro (_ | n) b rfl <;> rfl
  unfold State.flasherFollow State.cadenceFollow
  rw [if_pos ha, if_neg runs, State.runOnFollow, timer _ _ left, timer _ _ right]

theorem State.chargeFollow_of_followed {s : State} (hd : s.ConditionsFollowed) : s.chargeFollow = s := by
  obtain ⟨charge, -⟩ := hd
  unfold State.chargeFollow
  rw [← charge]
  cases h : s.supply.charge <;> simp [← h]

theorem State.storeFollow_of_followed {s : State} (hd : s.ConditionsFollowed) : s.storeFollow = s := by
  obtain ⟨-, -, -, store⟩ := hd
  unfold State.storeFollow
  split
  · rw [if_pos (store (by simp [*]))]
  · rfl

theorem State.channelsFollow_of_followed {s : State} (hc : s.CallsFollowed) : s.channelsFollow = s := by
  have channels : (vecOfFn fun c => (s.channel c).follow (s.channelConfig c).profile (s.called c)) = s.channels := by
    refine (congrArg vecOfFn (funext fun c => ?_)).trans (vecOfFn_self s.channels)
    exact Channel.follow_of_followed (hc.1 c).1 (hc.1 c).2 _
  rw [State.channelsFollow, channels]

/-- A reaction moves the fan alone in a part with some side active that follows its calls and conditions already. -/
theorem State.react_of_followed {s : State} (hc : s.CallsFollowed) (hd : s.ConditionsFollowed)
    (ha : s.anySide = true) : s.react = { s with fan := s.fan.follow s.settings.fan.rampStep s.fanTarget } := by
  have fan : s.fanFollow.CallsFollowed := hc
  rw [State.react, State.flasherFollow_of_followed hc hd ha, State.chargeFollow_of_followed hd,
    State.storeFollow_of_followed hd, State.channelsFollow_of_followed fan]
  rfl

/-! ### Cancelling a side after such a reaction -/

/-- What settles from a part whose fan has followed its target duty settles from that part as it was before. -/
theorem State.settledAs.before_follow {s t : State}
    (h : ({ s with fan := s.fan.follow s.settings.fan.rampStep s.fanTarget } : State).settledAs t) :
    s.settledAs t := by
  obtain ⟨same, fan, calls, conditions⟩ := h
  obtain ⟨flag, current, step, -, -⟩ := Fan.follow_keeps s.fan s.settings.fan.rampStep s.fanTarget
  obtain ⟨-, -, step', -, -⟩ := Fan.follow_keeps (s.fan.follow s.settings.fan.rampStep s.fanTarget)
    s.settings.fan.rampStep t.fanTarget
  have target : t.fanTarget = s.fanTarget := by
    have settings : t.settings = s.settings := same.settings
    have state : t.supply.state = s.supply.state := by rw [same.supply]
    have targetStep : t.fan.targetStep = s.fan.targetStep := by rw [fan]; exact step'.trans step
    simp only [State.fanTarget, State.fanCap, settings, state, targetStep]
  refine ⟨{ same with fan := ⟨same.fan.1.trans flag, same.fan.2.trans current⟩ }, ?_, calls, conditions⟩
  rw [fan, target]
  exact Fan.follow_follow _ _ _

/-- The fan takes nothing of a change that leaves IGN and FAN as they were (R122). -/
theorem State.fanAfterDemand_of_untouched {s t : State} (hi : t.eff .ign = s.eff .ign) (hf : t.eff .fan = s.eff .fan) :
    s.fanAfterDemand t = s.fan := by
  unfold State.fanAfterDemand
  rw [if_pos hf, if_pos (.inl hi)]

/-- A change of a function that the fan does not read, made once the fan has followed its target duty, is that change
made before. -/
theorem State.sameBeyondFunction.before_follow {s t : State} {f : Fn} (hi : Fn.ign ≠ f) (hf : Fn.fan ≠ f)
    (hs : t.settings = s.settings)
    (h : ({ s with fan := s.fan.follow s.settings.fan.rampStep s.fanTarget } : State).sameBeyondFunction t f) :
    s.sameBeyondFunction t f := by
  have eff : ∀ g, g ≠ f → t.eff g = s.eff g := fun g hg => congrArg FnRecord.effective (h.others g hg)
  have taken : State.fanAfterDemand { s with fan := s.fan.follow s.settings.fan.rampStep s.fanTarget } t
      = s.fan.follow s.settings.fan.rampStep s.fanTarget :=
    State.fanAfterDemand_of_untouched (eff _ hi) (eff _ hf)
  have settled := h.settled
  rw [taken, hs] at settled
  refine ⟨h.others, ?_⟩
  rw [State.fanAfterDemand_of_untouched (eff _ hi) (eff _ hf), hs]
  exact settled.before_follow

/-- A side cancelled once the fan has followed its target duty is cancelled from the part as it was before. -/
theorem State.cancelledAs.before_follow {s t : State} {side : Side}
    (h : ({ s with fan := s.fan.follow s.settings.fan.rampStep s.fanTarget } : State).cancelledAs t side) :
    s.cancelledAs t side := by
  rw [State.cancelledAs_iff] at h ⊢
  obtain ⟨record, reserved, event, same, timer, settings, link⟩ := h
  exact ⟨record, reserved, event,
    State.sameBeyondFunction.before_follow (ign_ne_indicatorFn side) (fan_ne_indicatorFn side) settings same, timer,
    settings, link⟩

/-! ### SET_FLASHER -/

/-- A side's run-on timer has reached a limit that is in force (R79). -/
def State.runOnDue (s : State) (side : Side) : Prop :=
  s.settings.runOnLimit ≠ 0 ∧ s.runOn side ≠ none ∧ s.settings.runOnLimit * 1000 ≤ (s.runOn side).getD 0

theorem State.expireIfDue_of_due {s : State} {side : Side} (h : s.runOnDue side) :
    s.expireIfDue side = s.cancelSide side := by
  obtain ⟨limit, runs, time⟩ := h
  unfold State.expireIfDue
  cases hr : s.runOn side with
  | none => exact absurd hr runs
  | some n => simp_all

theorem State.expireIfDue_of_not_due {s : State} {side : Side} (h : ¬ s.runOnDue side) : s.expireIfDue side = s := by
  unfold State.expireIfDue
  cases hr : s.runOn side with
  | none => rfl
  | some n => simp_all [State.runOnDue]

/-- The settings SET_FLASHER leaves (R80). -/
def State.flasherSet (s : State) (rate limit : Nat) : State :=
  { s with settings := { s.settings with flashRate := rate, runOnLimit := limit } }

theorem State.changeFlasher_eq (s : State) (rate limit : Nat) : s.changeFlasher rate limit
    = (((s.flasherSet rate limit).react).expireIfDue .left).expireIfDue .right := rfl

/-- After a new limit has been taken, a side is due where its condition holds and its time is not below the limit (R76,
R79). -/
theorem State.flasherSet_due (s : State) (rate limit : Nat) (side : Side) :
    (s.flasherSet rate limit).react.runOnDue side
      ↔ ¬ (limit = 0 ∨ s.throughIndicator side = false ∨ (s.runOn side).getD 0 < limit * 1000) := by
  have timer := (s.flasherSet rate limit).react_runOn side
  have settings := (s.flasherSet rate limit).react_settings
  have runs : (s.flasherSet rate limit).react.runOnRuns side = (s.throughIndicator side && !(limit == 0)) := by
    simp [State.runOnRuns, State.throughIndicator, State.eff, State.fn, State.flasherSet]
  have own : (s.flasherSet rate limit).runOn side = s.runOn side := by cases side <;> rfl
  rw [State.runOnDue, timer, settings, runs, own]
  by_cases hl : limit = 0 <;> cases ht : s.throughIndicator side <;> simp [State.flasherSet, hl]

theorem State.ConditionsFollowed.runOn {s : State} (h : s.ConditionsFollowed) (side : Side) :
    (s.runOn side).isSome = s.runOnRuns side := by
  obtain ⟨-, left, right, -⟩ := h
  cases side
  · exact left
  · exact right

/-- Cancelling a side does not change whether the other side is due. -/
theorem State.cancelSide_due_other {s : State} {side other : Side} (hs : side ≠ other) (hd : s.ConditionsFollowed) :
    (s.cancelSide side).runOnDue other ↔ s.runOnDue other := by
  have cancelled := s.cancelSide_cancelledAs side
  have timer := cancelled.runOn_other hs (hd.runOn other)
  obtain ⟨-, -, -, -, -, settings, -⟩ := (State.cancelledAs_iff _ _ _).1 cancelled
  rw [State.runOnDue, timer, settings]
  rfl

/-- New flasher settings leave every condition followed where a side's timer is not below the new limit: its timer runs, so
the old limit was in force too (R76, R79). -/
theorem State.flasherSet_followed {s : State} {rate limit : Nat} {side : Side} (hd : s.ConditionsFollowed)
    (h : ¬ (limit = 0 ∨ s.throughIndicator side = false ∨ (s.runOn side).getD 0 < limit * 1000)) :
    (s.flasherSet rate limit).ConditionsFollowed ∧ (s.flasherSet rate limit).anySide = true := by
  simp only [not_or, Bool.not_eq_false, not_lt] at h
  obtain ⟨new, through, time⟩ := h
  have old : s.settings.runOnLimit ≠ 0 := by
    have runs := hd.runOn side
    intro hz
    cases hr : s.runOn side with
    | none => rw [hr] at time; simp at time; omega
    | some n => rw [hr] at runs; simp [State.runOnRuns, hz] at runs
  have runs : ∀ side, (s.flasherSet rate limit).runOnRuns side = s.runOnRuns side := fun side => by
    have through : (s.flasherSet rate limit).throughIndicator side = s.throughIndicator side := rfl
    have limits : (s.flasherSet rate limit).settings.runOnLimit = limit := rfl
    rw [State.runOnRuns, State.runOnRuns, through, limits, beq_false_of_ne new, beq_false_of_ne old]
  have timers := hd.runOn
  obtain ⟨charge, -, -, store⟩ := hd
  refine ⟨⟨charge, (timers .left).trans (runs .left).symm, (timers .right).trans (runs .right).symm, store⟩, ?_⟩
  have any : (s.flasherSet rate limit).anySide = s.anySide := rfl
  rw [any]
  cases side <;> simp [State.anySide, State.sideActive, through]

/-- A side that new flasher settings find due is cancelled from the part with those settings (R79). -/
theorem State.flasherSet_cancelled {s : State} {rate limit : Nat} {side : Side} (hc : s.CallsFollowed)
    (hd : s.ConditionsFollowed)
    (h : ¬ (limit = 0 ∨ s.throughIndicator side = false ∨ (s.runOn side).getD 0 < limit * 1000)) :
    (s.flasherSet rate limit).cancelledAs ((s.flasherSet rate limit).react.cancelSide side) side := by
  obtain ⟨conditions, any⟩ := State.flasherSet_followed (rate := rate) hd h
  refine State.cancelledAs.before_follow ?_
  rw [← State.react_of_followed (s := s.flasherSet rate limit) hc conditions any]
  exact State.cancelSide_cancelledAs _ side

theorem exec_runOnExpiry {s : State} (hp : s.powered = true) (side : Side) : exec (.runOnExpiry side) s
    = .next (if (s.runOn side).isSome then s.cancelSide side else s) := by
  simp [exec, execRunOnExpiry, State.whenPowered, hp]

end Sys2Proof.Machine

open Sys2Proof Sys2Proof.Machine

/-- Settles O35: RUN_ON_EXPIRY is `State.cancelSide`; SET_FLASHER's reaction changes nothing but the fan in a part that
follows already, so that each side that is due is cancelled from the settings taken. -/
theorem runOnLimitCancelsItsSide : Obligations.RunOnLimitCancelsItsSide := by
  unfold Obligations.RunOnLimitCancelsItsSide
  refine ⟨fun s side hp => ⟨fun hr => ?_, fun hr => ?_⟩, fun s rate limit ha => ?_⟩
  · refine ⟨_, exec_runOnExpiry hp side, ?_⟩
    rw [if_pos (Option.isSome_iff_ne_none.2 hr)]
    exact s.cancelSide_cancelledAs side
  · rw [exec_runOnExpiry hp side, hr]
    rfl
  · intro rate' limit' taken below
    have served : exec (.setFlasher rate limit) s = .next
        { (s.heard ⟨0x26, u8 rate ++ u16 limit⟩).changeFlasher rate' limit' with link := taken.link } :=
      exec_accepted ha rfl rfl rfl
    have due : ∀ side, ((s.heard ⟨0x26, u8 rate ++ u16 limit⟩).flasherSet rate' limit').react.runOnDue side
        ↔ ¬ below side := State.flasherSet_due _ rate' limit'
    rw [State.changeFlasher_eq] at served
    refine ⟨fun hl hr => ?_, fun hc hd => ⟨fun side other hs hn hb => ?_, fun hl hr => ?_⟩⟩
    · have settled := ((s.heard ⟨0x26, u8 rate ++ u16 limit⟩).flasherSet rate' limit').react_settled
      rw [State.expireIfDue_of_not_due (mt (due .left).1 (not_not.2 hl)),
        State.expireIfDue_of_not_due (mt (due .right).1 (not_not.2 hr))] at served
      exact ⟨_, served, settled.withLink taken.link⟩
    · have cancelled := (State.flasherSet_cancelled (s := s.heard ⟨0x26, u8 rate ++ u16 limit⟩) (rate := rate')
        (limit := limit') (side := side) hc hd hn).withLink taken.link
      refine ⟨_, served, ?_⟩
      have idle := mt (due other).1 (not_not.2 hb)
      cases side <;> cases other <;> simp only [ne_eq, not_true_eq_false] at hs
      · rw [State.expireIfDue_of_due ((due _).2 hn), State.expireIfDue_of_not_due
          (mt (State.cancelSide_due_other (by decide) (State.react_conditions _)).1 idle)]
        exact cancelled
      · rw [State.expireIfDue_of_not_due idle, State.expireIfDue_of_due ((due _).2 hn)]
        exact cancelled
    · rw [State.expireIfDue_of_due ((due .left).2 hl), State.expireIfDue_of_due
        ((State.cancelSide_due_other (by decide) (State.react_conditions _)).2 ((due .right).2 hr))] at served
      exact ⟨_, _, served, (State.flasherSet_cancelled (s := s.heard _) hc hd hl).withLink taken.link,
        (State.cancelSide_cancelledAs _ .right).withLink taken.link⟩

end

section
/-! SUPPORT. SET_INPUT: finding a switch value and settling an input look at nothing of the link but LIMP, so that the
steps of R7 may be taken with the reply already in the link (R2, R7, R10). -/

namespace Sys2Proof.Machine

/-! ### The link is not looked at -/

/-- The part with another link. -/
def State.relinked (s : State) (l : Link) : State := { s with link := l }

section
variable (s : State) (l : Link)

@[simp] theorem State.relinked_eff (f : Fn) : (s.relinked l).eff f = s.eff f := rfl
@[simp] theorem State.relinked_fn (f : Fn) : (s.relinked l).fn f = s.fn f := rfl
@[simp] theorem State.relinked_input (i : Fin 12) : (s.relinked l).input i = s.input i := rfl
@[simp] theorem State.relinked_binding (i : Fin 12) : (s.relinked l).binding i = s.binding i := rfl
@[simp] theorem State.relinked_flasher : (s.relinked l).flasher = s.flasher := rfl
@[simp] theorem State.relinked_link : (s.relinked l).link = l := rfl
@[simp] theorem State.relinked_supply : (s.relinked l).supply = s.supply := rfl
@[simp] theorem State.relinked_chargeCondition : (s.relinked l).chargeCondition = s.chargeCondition := rfl
@[simp] theorem State.relinked_store : (s.relinked l).store = s.store := rfl
@[simp] theorem State.relinked_settings : (s.relinked l).settings = s.settings := rfl
@[simp] theorem State.relinked_anySide : (s.relinked l).anySide = s.anySide := rfl
@[simp] theorem State.relinked_storeCondition : (s.relinked l).storeCondition = s.storeCondition := rfl

theorem State.cadenceFollow_relinked : (s.relinked l).cadenceFollow = s.cadenceFollow.relinked l := by
  unfold State.cadenceFollow
  rw [State.relinked_anySide, State.relinked_flasher]
  split_ifs <;> rfl

theorem State.chargeFollow_relinked : (s.relinked l).chargeFollow = s.chargeFollow.relinked l := by
  unfold State.chargeFollow
  rw [State.relinked_chargeCondition, State.relinked_supply]
  dsimp only
  split_ifs <;> rfl

theorem State.storeFollow_relinked : (s.relinked l).storeFollow = s.storeFollow.relinked l := by
  unfold State.storeFollow
  rw [State.relinked_storeCondition, State.relinked_store]
  split
  · split <;> rfl
  · rfl

theorem State.react_relinked : (s.relinked l).react = s.react.relinked l := by
  have flasher : (s.relinked l).flasherFollow = s.flasherFollow.relinked l := by
    rw [State.flasherFollow, State.cadenceFollow_relinked]
    rfl
  rw [State.react, flasher, State.chargeFollow_relinked, State.storeFollow_relinked]
  rfl

theorem State.startSettle_relinked : (s.relinked l).startSettle = s.startSettle.relinked l := by
  unfold State.startSettle
  rw [State.relinked_settings]
  split_ifs <;> rfl

theorem State.fanOnIgnition_relinked (before : Nat) :
    (s.relinked l).fanOnIgnition before = (s.fanOnIgnition before).relinked l := by
  unfold State.fanOnIgnition
  rw [State.relinked_eff, State.relinked_eff, State.relinked_settings, State.startSettle_relinked]
  split_ifs <;> rfl

theorem State.fanOnFunction_relinked (before : Nat) :
    (s.relinked l).fanOnFunction before = (s.fanOnFunction before).relinked l := by
  unfold State.fanOnFunction
  rw [State.relinked_eff, State.startSettle_relinked]
  split_ifs <;> rfl

end

theorem State.reactFrom_relinked (s before : State) (l m : Link) :
    (s.relinked l).reactFrom (before.relinked m) = (s.reactFrom before).relinked l := by
  rw [State.reactFrom, State.fanOnDemand, State.fanOnIgnition_relinked, State.fanOnFunction_relinked,
    State.react_relinked]
  rfl

theorem State.writeFn_relinked (s : State) (l : Link) (f : Fn) (r : FnRecord) :
    (s.relinked l).writeFn f r = (s.writeFn f r).relinked l :=
  State.reactFrom_relinked ((s.clearReservation f).setFn f r) s l l

theorem State.raiseIfChanged_relinked (s before : State) (l m : Link) (f : Fn) :
    (s.relinked l).raiseIfChanged (before.relinked m) f
      = (s.raiseIfChanged before f).relinked l :=
  (apply_ite (State.relinked · l) (s.eff f = before.eff f) s (s.raise .demandChange f.idx.val)).symm

/-- Of the link the finding of a switch value looks at LIMP alone (R10, R19). -/
theorem State.switchTo_relinked (s : State) {l : Link} (h : l.limp = s.link.limp) (f : Fn) (value : Nat) :
    (s.relinked l).switchTo f value = (s.switchTo f value).relinked l := by
  have behaves : (s.relinked l).behaves f = s.behaves f := by
    rw [State.behaves, State.relinked_link, h]
    rfl
  unfold State.switchTo
  rw [behaves, State.relinked_fn]
  split
  · rfl
  · split
    · exact s.writeFn_relinked l f _
    · rfl

theorem State.switchByEdge_relinked (s : State) {l : Link} (h : l.limp = s.link.limp) (f : Fn) (value : Nat) :
    (s.relinked l).switchByEdge f value = (s.switchByEdge f value).relinked l := by
  rw [State.switchByEdge, s.switchTo_relinked h]
  exact State.raiseIfChanged_relinked _ _ _ _ _

theorem State.debounceTo_relinked (s : State) {l : Link} (h : l.limp = s.link.limp) (i : Fin 12) (value : Debounced) :
    (s.relinked l).debounceTo i value = (s.debounceTo i value).relinked l := by
  have edge : ∀ (x : Input) f v, ((s.setInput i x).relinked l).switchByEdge f v
      = ((s.setInput i x).switchByEdge f v).relinked l := fun x f v =>
    (s.setInput i x).switchByEdge_relinked h f v
  have put : ∀ x, (s.relinked l).setInput i x = (s.setInput i x).relinked l := fun _ => rfl
  unfold State.debounceTo
  simp only [State.relinked_binding, State.relinked_input, put]
  split
  · rfl
  · split
    · rfl
    · split
      · exact edge _ _ _
      · split
        · exact edge _ _ _
        · rfl

theorem State.settleIfDue_relinked (s : State) {l : Link} (h : l.limp = s.link.limp) (i : Fin 12) :
    (s.relinked l).settleIfDue i = (s.settleIfDue i).relinked l := by
  have settled : (s.relinked l).settleInput i = (s.settleInput i).relinked l := s.debounceTo_relinked h i _
  rw [State.settleIfDue, settled]
  exact (apply_ite (State.relinked · l) ((s.binding i).debounce ≤ (s.input i).count) _ s).symm

/-! ### The steps of R7 -/

/-- A step of R7: the finding of a switch value of one function or of none. -/
def State.findFor (s : State) (f : Option Fn) (value : Fn → Nat) : State :=
  match f with
  | none => s
  | some f => s.switchTo f (value f)

@[simp] theorem State.findFor_none (s : State) (value : Fn → Nat) : s.findFor none value = s := rfl

@[simp] theorem State.findFor_some (s : State) (f : Fn) (value : Fn → Nat) :
    s.findFor (some f) value = s.switchTo f (value f) := rfl

/-- A step of R7 where a condition on its function holds. -/
theorem State.findFor_filter (s : State) (f : Fn) (p : Fn → Bool) (value : Fn → Nat) :
    s.findFor ((some f).filter p) value = if p f = true then s.switchTo f (value f) else s := by
  cases h : p f <;> simp [Option.filter, h]

theorem State.findFor_step (s : State) (f : Option Fn) {value : Fn → Nat} {condition : Fn → Nat → Prop}
    (h : ∀ f, condition f (value f)) : s.bindingStep (s.findFor f value) f condition := by
  cases f with
  | none => exact rfl
  | some f => exact ⟨_, h f, s.switchTo_found f _⟩

@[simp] theorem State.findFor_inputs (s : State) (f : Option Fn) (value : Fn → Nat) :
    (s.findFor f value).inputs = s.inputs := by
  cases f
  · rfl
  · exact s.switchTo_inputs _ _

@[simp] theorem State.findFor_settings (s : State) (f : Option Fn) (value : Fn → Nat) :
    (s.findFor f value).settings = s.settings := by
  cases f
  · rfl
  · exact s.switchTo_settings _ _

@[simp] theorem State.findFor_powered (s : State) (f : Option Fn) (value : Fn → Nat) :
    (s.findFor f value).powered = s.powered := by
  cases f
  · rfl
  · exact s.switchTo_powered _ _

@[simp] theorem State.findFor_link (s : State) (f : Option Fn) (value : Fn → Nat) :
    (s.findFor f value).link = s.link := by
  cases f
  · rfl
  · exact s.switchTo_link _ _

theorem State.findFor_relinked (s : State) {l : Link} (h : l.limp = s.link.limp) (f : Option Fn) (value : Fn → Nat) :
    (s.relinked l).findFor f value = (s.findFor f value).relinked l := by
  cases f
  · rfl
  · exact s.switchTo_relinked h _ _

theorem State.leaveFunction_eq (s : State) (i : Fin 12) (old : Binding) : s.leaveFunction i old
    = s.findFor (if old.action = .level then old.function else none) (s.levelValue · fun j => j != i) := by
  unfold State.leaveFunction
  cases old.function <;> cases old.action <;> rfl

theorem State.joinFunction_eq (s : State) (b : Binding) (boundBefore : Fn → Bool) :
    let opened := s.findFor (b.function.filter fun g => !boundBefore g) fun _ => 0
    s.joinFunction b boundBefore
      = opened.findFor (if b.action = .level then b.function else none) opened.levelEvaluation := by
  unfold State.joinFunction
  cases b.function with
  | none => simp
  | some g => cases hg : boundBefore g <;> by_cases ha : b.action = .level <;> simp [State.findFor_filter, hg, ha]

theorem State.restUnbound_eq (s : State) (old : Binding) : s.restUnbound old
    = s.findFor (old.function.filter fun f => !isBound s.settings.bindings f) Fn.restValue := by
  unfold State.restUnbound
  cases old.function with
  | none => rfl
  | some f => cases hf : isBound s.settings.bindings f <;> simp [State.findFor_filter, hf]

/-! ### SET_INPUT -/

/-- The input SET_INPUT leaves: a polarity change leaves it UNSETTLED, its count starting again (R3, log 13). -/
def State.reboundInput (s : State) (i : Fin 12) (polarity : Polarity) : Input :=
  if polarity = (s.binding i).polarity then s.input i else ⟨(s.input i).contact, .unsettled, 0⟩

theorem State.replaceBinding_eq (s : State) (i : Fin 12) (b : Binding) : s.replaceBinding i b =
    { s with
      settings := { s.settings with bindings := s.settings.bindings.set i b }
      inputs := s.inputs.set i (s.reboundInput i b.polarity) } := by
  unfold State.replaceBinding State.reboundInput
  by_cases h : b.polarity = (s.binding i).polarity
  · have kept : s.inputs.set i (s.input i) = s.inputs := by simp [State.input]
    rw [if_pos h, kept]
    exact if_pos h.symm
  · rw [if_neg h]
    exact if_neg (Ne.symm h)

theorem State.leaveFunction_relinked (s : State) {l : Link} (h : l.limp = s.link.limp) (i : Fin 12) (old : Binding) :
    (s.relinked l).leaveFunction i old = (s.leaveFunction i old).relinked l := by
  rw [State.leaveFunction_eq, State.leaveFunction_eq]
  exact s.findFor_relinked h _ _

theorem State.joinFunction_relinked (s : State) {l : Link} (h : l.limp = s.link.limp) (b : Binding)
    (boundBefore : Fn → Bool) :
    (s.relinked l).joinFunction b boundBefore = (s.joinFunction b boundBefore).relinked l := by
  rw [State.joinFunction_eq, State.joinFunction_eq, s.findFor_relinked h]
  exact State.findFor_relinked _ (h.trans (congrArg Link.limp (State.findFor_link ..).symm)) _ _

theorem State.restUnbound_relinked (s : State) {l : Link} (h : l.limp = s.link.limp) (old : Binding) :
    (s.relinked l).restUnbound old = (s.restUnbound old).relinked l := by
  rw [State.restUnbound_eq, State.restUnbound_eq]
  exact s.findFor_relinked h _ _

theorem State.replaceBinding_relinked (s : State) (l : Link) (i : Fin 12) (b : Binding) :
    (s.relinked l).replaceBinding i b = (s.replaceBinding i b).relinked l := by
  rw [State.replaceBinding_eq, State.replaceBinding_eq]
  rfl

/-- SET_INPUT's change is the same whatever the link holds, LIMP apart. -/
theorem State.bindInput_relinked (s : State) {l : Link} (h : l.limp = s.link.limp) (i : Fin 12) (b : Binding) :
    (s.relinked l).bindInput i b = (s.bindInput i b).relinked l := by
  unfold State.bindInput
  rw [State.replaceBinding_relinked, State.relinked_binding, State.relinked_settings,
    State.leaveFunction_relinked _ (by simpa), State.joinFunction_relinked _ (by simpa),
    State.restUnbound_relinked _ (by simpa), State.settleIfDue_relinked _ (by simpa)]

theorem isBound_eq_false (s : State) (f : Fn) :
    isBound s.settings.bindings f = false ↔ ∀ j, (s.binding j).function ≠ some f := by
  simp [isBound, State.binding, Vector.any_eq_false, Fin.forall_iff]

/-- A LEVEL evaluation looks at inputs and bindings alone (R5). -/
theorem State.largestLevel_congr {s t : State} (hi : t.inputs = s.inputs) (hs : t.settings = s.settings) {f : Fn}
    {without : Option (Fin 12)} {value : Nat} (h : t.largestLevel f without value) : s.largestLevel f without value := by
  have input : ∀ j, t.input j = s.input j := fun j => by rw [State.input, hi]; rfl
  have binding : ∀ j, t.binding j = s.binding j := fun j => by rw [State.binding, hs]; rfl
  simpa only [State.largestLevel, input, binding] using h

/-- The steps of R7 in their order, and the settling after them. -/
theorem State.bindInput_steps (s : State) (i : Fin 12) (b : Binding) :
    let old := s.binding i
    let replaced := s.replaceBinding i b
    ∃ left opened joined u : State, s.bindInput i b = u.settleIfDue i
      ∧ replaced.bindingStep left (if old.action = .level then old.function else none)
          (fun f value => replaced.largestLevel f (some i) value)
      ∧ left.bindingStep opened (b.function.filter fun g => !isBound s.settings.bindings g) (fun _ value => value = 0)
      ∧ opened.bindingStep joined (if b.action = .level then b.function else none)
          (fun g value => replaced.largestLevel g none value)
      ∧ joined.bindingStep u (old.function.filter fun f => !isBound replaced.settings.bindings f)
          (fun f value => value = f.restValue)
      ∧ u.inputs = replaced.inputs ∧ u.settings = replaced.settings ∧ u.powered = replaced.powered := by
  intro old replaced
  let left := replaced.leaveFunction i old
  let opened := left.findFor (b.function.filter fun g => !isBound s.settings.bindings g) fun _ => 0
  let joined := left.joinFunction b (isBound s.settings.bindings)
  have hl : left = _ := replaced.leaveFunction_eq i old
  have hj : joined = _ := left.joinFunction_eq b (isBound s.settings.bindings)
  have hu : joined.restUnbound old = _ := joined.restUnbound_eq old
  have inputs : opened.inputs = replaced.inputs := by simp [opened, hl]
  have settings : opened.settings = replaced.settings := by simp [opened, hl]
  have bound : joined.settings = replaced.settings := by rw [hj, State.findFor_settings]; exact settings
  refine ⟨left, opened, joined, joined.restUnbound old, rfl, ?_, left.findFor_step _ fun _ => rfl, ?_, ?_, ?_⟩
  · rw [hl]
    exact replaced.findFor_step _ fun f => State.levelValue_largest _ f (some i) _ fun j => by
      rw [bne_iff_ne, ne_eq, ne_eq, Option.some_inj, eq_comm]
  · rw [hj]
    exact opened.findFor_step _ fun g => State.largestLevel_congr inputs settings
      (opened.levelValue_largest g none _ (by simp))
  · rw [hu, bound]
    exact joined.findFor_step _ fun _ => rfl
  · rw [hu, hj, hl]
    simp

/-- The settling at once is a debounce expiry: the count has passed the debounce time already (R2, log 35). -/
theorem State.settleIfDue_of_due {s : State} {i : Fin 12} (h : (s.binding i).debounce ≤ (s.input i).count) :
    s.settleIfDue i = s.expireDebounce i := by
  have counted : s.setInput i (s.countedInput i) = s := by
    have same : s.countedInput i = s.input i := by rw [State.countedInput, max_eq_left h]
    rw [same]
    simp [State.setInput, State.input]
  calc s.settleIfDue i = s.settleInput i := if_pos h
    _ = (s.setInput i (s.countedInput i)).settleInput i := by rw [counted]

@[simp] theorem action?_code (a : Action) : action? a.code = some a := by cases a <;> rfl

@[simp] theorem polarity?_code (p : Polarity) : polarity? p.code = some p := by cases p <;> rfl

/-- A function's number as a field that may be absent (R174). -/
def functionCode : Option Fn → Nat
  | some f => f.idx.val
  | none => 0xFF

@[simp] theorem orNone?_functionCode (f : Option Fn) : orNone? function? (functionCode f) = some f := by
  cases f with
  | none => rfl
  | some f => simp [orNone?, functionCode, show f.idx.val ≠ 255 by omega]

theorem takeSetInput_accepts (s : State) (i : Fin 12) (f : Option Fn) (a : Action) (level : Nat) (p : Polarity)
    (debounce : Nat) :
    let b : Binding := ⟨f, a, (match f with | some f => min level f.maxValue | none => 0), p, max 5 (min 200 debounce)⟩
    takeSetInput i.val (functionCode f) a.code level p.code debounce s = accept (s.bindInput i b) (bindingBytes b) := by
  simp only [takeSetInput, bindingOf?, index?_val, orNone?_functionCode, action?_code, polarity?_code]
  rfl

end Sys2Proof.Machine

open Sys2Proof Sys2Proof.Machine

/-- Settles O23: SET_INPUT's take is the steps of R7 and the settling, taken with the reply already in the link. -/
theorem bindingChangeIsNoEdge : Obligations.BindingChangeIsNoEdge := by
  unfold Obligations.BindingChangeIsNoEdge
  intro s i function action level polarity debounce ha code b old input replaced hasNone
  have served : exec (.setInput i.val code action.code level polarity.code debounce) s
      = .next ((s.relinked replaced.link).bindInput i b) := by
    let heard := s.heard ⟨0x15, u8 i.val ++ u8 code ++ u8 action.code ++ u16 level ++ u8 polarity.code ++ u8 debounce⟩
    have code_eq : code = functionCode function := by cases function <;> rfl
    have taken : takeSetInput i.val code action.code level polarity.code debounce heard
        = accept (heard.bindInput i b) (bindingBytes b) := by
      rw [code_eq]
      exact takeSetInput_accepts heard i function action level polarity debounce
    have reply : u8 0 ++ bindingBytes b
        = u8 0 ++ u8 code ++ u8 action.code ++ u16 b.level ++ u8 polarity.code ++ u8 b.debounce := by
      cases function <;> rfl
    have done := exec_accepted (i := .setInput i.val code action.code level polarity.code debounce) ha rfl rfl taken
    rw [reply] at done
    exact done.trans (congrArg _ (heard.bindInput_relinked (l := replaced.link) rfl i b).symm)
  have replaced_eq : (s.relinked replaced.link).replaceBinding i b = replaced := State.replaceBinding_eq _ i b
  obtain ⟨left, opened, joined, u, settles, leave, opens, join, rest, inputs, settings, powered⟩ :=
    (s.relinked replaced.link).bindInput_steps i b
  rw [replaced_eq] at leave join rest inputs settings powered
  have unbound : ∀ (v : State) f, decide (hasNone v f) = !isBound v.settings.bindings f := fun v f =>
    Bool.eq_iff_iff.2 (by simp [hasNone, ← isBound_eq_false])
  simp only [unbound]
  have binding : u.binding i = b := by simp [State.binding, settings, replaced]
  have count : (u.input i).count = input.count := by simp [State.input, inputs, replaced]
  refine ⟨left, opened, joined, u, u.settleIfDue i, settles ▸ served, leave, opens, join, rest, ?_⟩
  by_cases due : polarity = old.polarity ∧ b.debounce ≤ (s.input i).count
  · obtain ⟨kept, passed⟩ := due
    have counted : input = s.input i := if_pos kept
    rw [if_pos ⟨kept, passed⟩, State.settleIfDue_of_due (by rwa [binding, count, counted])]
    exact exec_debounceExpiry (powered.trans ha.1) i
  · rw [if_neg due]
    refine if_neg ?_
    rw [binding, count]
    by_cases kept : polarity = old.polarity
    · have counted : input = s.input i := if_pos kept
      rw [counted]
      exact fun h => due ⟨kept, h⟩
    · have counted : input.count = 0 := congrArg Input.count (if_neg kept)
      have least : 5 ≤ b.debounce := le_max_left _ _
      omega

end

section
/-! SUPPORT. What a channel is called to do: how demands merge, which entries a channel gathers, and what is carried to it
(R34 to R38, R46). -/

namespace Sys2Proof.Machine

/-! ### Merging -/

/-- Demands that merge into flash: one of them is flash (R34, R37). -/
theorem foldl_merge_eq_flash (l : List Demand) (d : Demand) :
    l.foldl .merge d = .flash ↔ d = .flash ∨ .flash ∈ l := by
  induction l generalizing d with
  | nil => simp
  | cons e l ih =>
    have pair : d.merge e = .flash ↔ d = .flash ∨ .flash = e := by cases d <;> cases e <;> simp [Demand.merge]
    rw [List.foldl_cons, ih, pair, List.mem_cons, or_assoc]

/-- Demands that merge into none: each of them is none. -/
theorem foldl_merge_eq_none (l : List Demand) (d : Demand) :
    l.foldl .merge d = .none ↔ d = .none ∧ ∀ e ∈ l, e = .none := by
  induction l generalizing d with
  | nil => simp
  | cons e l ih =>
    have pair : d.merge e = .none ↔ d = .none ∧ e = .none := by cases d <;> cases e <;> simp [Demand.merge]
    rw [List.foldl_cons, ih, pair, List.forall_mem_cons, and_assoc]

/-- Two demands that do not merge into flash merge into a steady one no smaller than either that is steady. -/
theorem Demand.le_merge {d e : Demand} (h : d.merge e ≠ .flash) {m : Nat} (hm : d = .steady m ∨ .steady m = e) :
    ∃ k, d.merge e = .steady k ∧ m ≤ k := by
  obtain rfl | rfl := hm
  · cases e <;> simp_all [Demand.merge]
  · cases d <;> simp_all [Demand.merge]

/-- A steady demand that two merge into is one of the two. -/
theorem Demand.merge_eq_steady {d e : Demand} {n : Nat} (h : d.merge e = .steady n) :
    d = .steady n ∨ .steady n = e := by
  cases d <;> cases e <;> simp [Demand.merge] at h ⊢ <;> omega

/-- Demands that merge into a steady one: it is the largest of the steady ones among them. -/
theorem foldl_merge_eq_steady {l : List Demand} {d : Demand} {n : Nat} (h : l.foldl .merge d = .steady n) :
    (∀ m, d = .steady m ∨ .steady m ∈ l → m ≤ n) ∧ (d = .steady n ∨ .steady n ∈ l) := by
  induction l generalizing d with
  | nil =>
    obtain rfl : d = .steady n := h
    simp
  | cons e l ih =>
    obtain ⟨upper, found⟩ := ih h
    have quiet : d.merge e ≠ .flash := fun hf => by
      rw [List.foldl_cons, (foldl_merge_eq_flash l _).2 (.inl hf)] at h
      cases h
    simp only [List.mem_cons, ← or_assoc]
    constructor
    · rintro m (hm | hm)
      · obtain ⟨k, hk, le⟩ := Demand.le_merge quiet hm
        exact le.trans (upper k (.inl hk))
      · exact upper m (.inr hm)
    · exact found.imp_left Demand.merge_eq_steady

/-! ### Own demand -/

/-- The entry acts on the channel: it is enabled and covers it, and its role is active and of a class below the shed level
(R29, R31, R34). -/
theorem State.gathers_iff (s : State) (c : Fin 16) (e : MapEntry) : s.gathers c e = true ↔
    e.enabled = true ∧ e.first ≤ c ∧ c ≤ e.last ∧ s.roleActive e.role = true
      ∧ s.shedClass e.role < s.supply.state.shedLevel := by
  simp [State.gathers, MapEntry.covers, State.roleShed, and_assoc]

/-- A demand that a channel gathers is that of an entry which acts on it. -/
theorem State.mem_gathered_demands (s : State) (c : Fin 16) (d : Demand) :
    d ∈ (s.gathered c).map (fun e => s.roleDemand e.role)
      ↔ ∃ k, s.gathers c (s.mapEntry k) = true ∧ s.roleDemand (s.mapEntry k).role = d := by
  simp only [State.gathered, List.mem_map, List.mem_filter, Vector.mem_toList_iff, Vector.mem_iff_getElem,
    State.mapEntry]
  constructor
  · rintro ⟨_, ⟨⟨k, hk, rfl⟩, acts⟩, rfl⟩
    exact ⟨⟨k, hk⟩, acts, rfl⟩
  · rintro ⟨k, acts, rfl⟩
    exact ⟨_, ⟨⟨k, k.isLt, rfl⟩, acts⟩, rfl⟩

theorem Role.isFlashing_iff (r : Role) : r.isFlashing = true ↔ r = .indL ∨ r = .indR ∨ r = .indTell := by
  cases r <;> simp [Role.isFlashing]

theorem State.roleDemand_eq_flash (s : State) (r : Role) : s.roleDemand r = .flash ↔ r.isFlashing = true := by
  unfold State.roleDemand; split <;> simp [*]

theorem State.roleDemand_ne_none (s : State) (r : Role) : s.roleDemand r ≠ .none := by
  unfold State.roleDemand; split <;> simp

theorem State.roleDemand_eq_steady (s : State) (r : Role) (n : Nat) :
    s.roleDemand r = .steady n ↔ r.isFlashing = false ∧ s.roleDuty r = n := by
  unfold State.roleDemand; split <;> simp [*]

/-- The own demand is flash where a flashing role acts (R34). -/
theorem State.ownDemand_eq_flash (s : State) (c : Fin 16) : s.ownDemand c = .flash ↔
    ∃ k, s.gathers c (s.mapEntry k) = true ∧ (s.mapEntry k).role.isFlashing = true := by
  simp [State.ownDemand, foldl_merge_eq_flash, State.mem_gathered_demands, State.roleDemand_eq_flash]

/-- The own demand is none where no entry acts (R34). -/
theorem State.ownDemand_eq_none (s : State) (c : Fin 16) :
    s.ownDemand c = .none ↔ ∀ k, s.gathers c (s.mapEntry k) = false := by
  simp only [State.ownDemand, foldl_merge_eq_none, State.mem_gathered_demands, true_and]
  constructor
  · intro h k
    by_contra acts
    exact s.roleDemand_ne_none _ (h _ ⟨k, by simpa using acts, rfl⟩)
  · rintro h _ ⟨k, acts, -⟩
    simp [h k] at acts

/-- A steady own demand is the largest duty among the roles that act, none of which flashes (R34). -/
theorem State.ownDemand_eq_steady {s : State} {c : Fin 16} {n : Nat} (h : s.ownDemand c = .steady n) :
    (∀ k, s.gathers c (s.mapEntry k) = true → s.roleDuty (s.mapEntry k).role ≤ n)
    ∧ ∃ k, s.gathers c (s.mapEntry k) = true ∧ s.roleDuty (s.mapEntry k).role = n := by
  obtain ⟨upper, found⟩ := foldl_merge_eq_steady h
  simp only [State.mem_gathered_demands, State.roleDemand_eq_steady, reduceCtorEq, false_or] at upper found
  have steady : ∀ k, s.gathers c (s.mapEntry k) = true → (s.mapEntry k).role.isFlashing = false := fun k acts => by
    by_contra flashes
    rw [(s.ownDemand_eq_flash c).2 ⟨k, acts, by simpa using flashes⟩] at h
    cases h
  refine ⟨fun k acts => upper _ ⟨k, acts, steady k acts, rfl⟩, ?_⟩
  obtain ⟨k, acts, -, duty⟩ := found
  exact ⟨k, acts, duty⟩

/-! ### Carried and composed demand -/

/-- The four conditions of R36. -/
theorem State.carriesTo_iff (s : State) (x c : Fin 16) : s.carriesTo x c = true ↔
    (s.channelConfig x).substitute = some c ∧ ((s.channel x).openFlag = true ∨ (s.channel x).state = .lockedOff)
      ∧ (s.channel x).state ≠ .tripWait ∧ s.ownDemand x ≠ .none := by
  simp [State.carriesTo, Channel.hasFailed, and_assoc]

theorem State.carrying_iff (s : State) (x : Fin 16) : s.carrying x = true ↔ ∃ c, s.carriesTo x c = true := by
  unfold State.carrying
  split
  · rename_i c hc
    refine ⟨fun h => ⟨c, h⟩, ?_⟩
    rintro ⟨c', h⟩
    obtain rfl := Option.some.inj (hc.symm.trans ((s.carriesTo_iff x c').1 h).1)
    exact h
  · rename_i hc
    simp [State.carriesTo_iff, hc]

theorem State.receiving_iff (s : State) (c : Fin 16) : s.receiving c = true ↔ ∃ x, s.carriesTo x c = true := by
  simp [State.receiving]

theorem State.mem_carried_demands (s : State) (c : Fin 16) (d : Demand) :
    d ∈ ((List.finRange 16).filter fun x => s.carriesTo x c).map s.ownDemand
      ↔ ∃ x, s.carriesTo x c = true ∧ s.ownDemand x = d := by
  simp

/-- The composed demand is flash where the own demand or a carried one is (R37). -/
theorem State.composedDemand_eq_flash (s : State) (c : Fin 16) : s.composedDemand c = .flash ↔
    s.ownDemand c = .flash ∨ ∃ x, s.carriesTo x c = true ∧ s.ownDemand x = .flash := by
  rw [State.composedDemand, foldl_merge_eq_flash, State.mem_carried_demands]

/-- The composed demand is none where there is neither own nor carried demand (R37). -/
theorem State.composedDemand_eq_none (s : State) (c : Fin 16) : s.composedDemand c = .none ↔
    s.ownDemand c = .none ∧ ∀ x, s.carriesTo x c = false := by
  rw [State.composedDemand, foldl_merge_eq_none]
  simp only [State.mem_carried_demands]
  refine and_congr_right fun _ => ⟨fun h x => ?_, ?_⟩
  · by_contra carries
    rw [Bool.not_eq_false] at carries
    obtain ⟨-, -, -, own⟩ := (s.carriesTo_iff x c).1 carries
    exact own (h _ ⟨x, carries, rfl⟩)
  · rintro h _ ⟨x, carries, -⟩
    simp [h x] at carries

/-- A steady composed demand is the largest among the own demand and the carried ones (R37). -/
theorem State.composedDemand_eq_steady {s : State} {c : Fin 16} {n : Nat} (h : s.composedDemand c = .steady n) :
    (∀ own, s.ownDemand c = .steady own → own ≤ n)
    ∧ (∀ x carried, s.carriesTo x c = true → s.ownDemand x = .steady carried → carried ≤ n)
    ∧ (s.ownDemand c = .steady n ∨ ∃ x, s.carriesTo x c = true ∧ s.ownDemand x = .steady n) := by
  obtain ⟨upper, found⟩ := foldl_merge_eq_steady h
  simp only [State.mem_carried_demands] at upper found
  exact ⟨fun own ho => upper own (.inl ho), fun x carried hx hd => upper carried (.inr ⟨x, hx, hd⟩), found⟩

end Sys2Proof.Machine

open Sys2Proof Sys2Proof.Machine

/-- Settles O24: the table of R23, row by row. -/
theorem rolesFollowTheirFunctions : Obligations.RolesFollowTheirFunctions := by
  unfold Obligations.RolesFollowTheirFunctions
  intro s side
  have throughIndicator : ∀ x, s.throughIndicator x = true ↔ s.eff (indicatorFn x) = 1 ∧ s.eff .ign = 1 := fun x => by
    simp [State.throughIndicator]
  have sideActive : ∀ x, s.sideActive x = true ↔ side (indicatorFn x) := fun x => by
    simp [State.sideActive, throughIndicator, side]
  have anySide : s.anySide = true ↔ side .indL ∨ side .indR := by
    simp only [State.anySide, Bool.or_eq_true, sideActive, indicatorFn]
  refine ⟨?_, ?_, ?_, sideActive .left, sideActive .right, ?_, ?_, ?_, ?_, ?_, Iff.rfl, anySide, ?_,
    throughIndicator .left, throughIndicator .right⟩ <;> simp [State.roleActive]

/-- Settles O26: the three merged demands, own, carried and composed, and the drive that reads the composed one. -/
theorem callsFollowTheMap : Obligations.CallsFollowTheMap := by
  unfold Obligations.CallsFollowTheMap
  intro s c level acts flashes duty
  have level_eq : s.supply.state.shedLevel = level := by
    simp only [level]; cases s.supply.state <;> rfl
  have gathers : ∀ k, s.gathers c (s.mapEntry k) = true ↔ acts (s.mapEntry k) := fun k => by
    rw [State.gathers_iff, level_eq]
  have flashing : ∀ e : MapEntry, e.role.isFlashing = true ↔ flashes e := fun e => e.role.isFlashing_iff
  refine ⟨?_, ?_, fun d hd => ?_, s.carriesTo_iff c, s.carrying_iff c, s.receiving_iff c, s.composedDemand_eq_flash c,
    s.composedDemand_eq_none c, fun d hd => State.composedDemand_eq_steady hd, fun hd => ?_, fun d hd => ?_,
    fun hd => ?_⟩
  · simp only [State.ownDemand_eq_flash, gathers, flashing]
  · simp only [State.ownDemand_eq_none, ← gathers, Bool.not_eq_true]
  · have steady := State.ownDemand_eq_steady hd
    simp only [gathers] at steady
    exact steady
  · simp [State.called, State.driveDuty, hd]
  · simp [State.called, State.driveDuty, hd]
  · simp [State.called, hd]

end

section
/-! SUPPORT. Nothing lags along every step: a command either changes nothing that a call or a condition reads, or ends in the
blocks' reaction, which settles whatever it is given (R35, R46, R66, R76, R146, R156). -/

namespace Sys2Proof.Machine

/-- Nothing lags: the channels and the cadence follow their calls, and the rest its conditions. -/
def State.Following (s : State) : Prop := s.CallsFollowed ∧ s.ConditionsFollowed

/-- A step from one state to another leaves nothing lagging where nothing lagged. -/
def State.KeepsFollowing (s t : State) : Prop := s.Following → t.Following

theorem State.KeepsFollowing.refl (s : State) : s.KeepsFollowing s := id

theorem State.KeepsFollowing.trans {s t u : State} (h : s.KeepsFollowing t) (k : t.KeepsFollowing u) :
    s.KeepsFollowing u := k ∘ h

/-! ### Changes that no call and no condition reads -/

/-- A channel conducts, is OFF, and carries on account of a failure, as another does. -/
structure Channel.SameStanding (x y : Channel) : Prop where
  conducting : y.state.conducting = x.state.conducting := by rfl
  off : y.state = .off ↔ x.state = .off := by exact Iff.rfl
  failed : y.hasFailed = x.hasFailed := by rfl

/-- What calls and conditions read is as it was; and what is being programmed, if anything, was so already or has its
supply. -/
structure State.SameCalls (s t : State) : Prop where
  eff : ∀ f, t.eff f = s.eff f := by intro; rfl
  map : t.settings.map = s.settings.map := by rfl
  shedClasses : t.settings.shedClasses = s.settings.shedClasses := by rfl
  channelConfigs : t.settings.channels = s.settings.channels := by rfl
  runOnLimit : t.settings.runOnLimit = s.settings.runOnLimit := by rfl
  supplyConfig : t.settings.supply = s.settings.supply := by rfl
  supplyState : t.supply.state = s.supply.state := by rfl
  charge : t.supply.charge = s.supply.charge := by rfl
  batMean : t.supply.batMean = s.supply.batMean := by rfl
  dynMean : t.supply.dynMean = s.supply.dynMean := by rfl
  cadence : t.flasher.cadence = s.flasher.cadence := by rfl
  runOn : ∀ side, (t.runOn side).isSome = (s.runOn side).isSome := by intro; rfl
  channels : ∀ c, (s.channel c).SameStanding (t.channel c) := by exact fun _ => {}
  flight : t.store.programming.isSome = true →
    s.store.programming.isSome = true ∨ s.storeCondition = true := by exact Or.inl

namespace State.SameCalls

variable {s t : State} (h : s.SameCalls t)
include h

theorem throughIndicator (side : Side) : t.throughIndicator side = s.throughIndicator side := by
  simp only [State.throughIndicator, h.eff]

theorem anySide : t.anySide = s.anySide := by
  simp only [State.anySide, State.sideActive, h.throughIndicator, h.eff]

theorem roleActive (r : Role) : t.roleActive r = s.roleActive r := by
  cases r <;> simp only [State.roleActive, State.sideActive, h.anySide, h.throughIndicator, h.eff, h.charge]

theorem ownDemand : t.ownDemand = s.ownDemand := by
  funext c
  have shed : ∀ r, t.roleShed r = s.roleShed r := fun r => by
    rw [State.roleShed, State.roleShed, State.shedClass, State.shedClass, h.shedClasses, h.supplyState]
  have gathers : t.gathers c = s.gathers c := by
    funext e
    simp only [State.gathers, h.roleActive, shed]
  have demand : t.roleDemand = s.roleDemand := by
    funext r
    simp only [State.roleDemand, State.roleDuty, h.eff]
  simp only [State.ownDemand, State.gathered, h.map, gathers, demand]

theorem called (c : Fin 16) : t.called c = s.called c := by
  have carries : ∀ x, t.carriesTo x c = s.carriesTo x c := fun x => by
    simp only [State.carriesTo, State.channelConfig, h.channelConfigs, (h.channels x).failed, h.ownDemand]
  simp only [State.called, State.composedDemand, carries, h.ownDemand, h.cadence]

theorem runOnRuns (side : Side) : t.runOnRuns side = s.runOnRuns side := by
  simp only [State.runOnRuns, h.throughIndicator, h.runOnLimit]

theorem chargeCondition : t.chargeCondition = s.chargeCondition := by
  simp only [State.chargeCondition, h.eff, h.batMean, h.dynMean, h.supplyConfig]

theorem storeCondition : t.storeCondition = s.storeCondition := by
  simp only [State.storeCondition, h.supplyState, h.batMean, h.supplyConfig]

/-- Where nothing lagged, nothing does after a change that no call and no condition reads. -/
theorem keeps : s.KeepsFollowing t := by
  rintro ⟨⟨channels, cadence⟩, charge, left, right, flight⟩
  refine ⟨⟨fun c => ?_, ?_⟩, ?_, ?_, ?_, fun some => ?_⟩
  · obtain ⟨called, idle⟩ := channels c
    have stands := h.channels c
    rw [h.called]
    exact ⟨fun conducts => called (stands.conducting ▸ conducts), fun off => idle (stands.off.1 off)⟩
  · rw [h.cadence, h.anySide, cadence]
  · rw [h.charge, h.chargeCondition, charge]
  · rw [h.runOnRuns, ← left]; exact h.runOn .left
  · rw [h.runOnRuns, ← right]; exact h.runOn .right
  · rw [h.storeCondition]; exact (h.flight some).elim flight id

end State.SameCalls


/-! ### Changes that the blocks take up -/

theorem State.react_following (s : State) : s.react.Following := ⟨s.react_calls, s.react_conditions⟩

theorem State.writeFn_following (s : State) (f : Fn) (r : FnRecord) : (s.writeFn f r).Following :=
  State.react_following _

theorem State.react_keepsFollowing (s t : State) : s.KeepsFollowing t.react := fun _ => t.react_following

theorem State.writeFn_keepsFollowing (s t : State) (f : Fn) (r : FnRecord) : s.KeepsFollowing (t.writeFn f r) :=
  fun _ => t.writeFn_following f r

/-! ### The demand table -/

theorem State.raise_sameCalls (s : State) (e : Event) (detail : Nat) : s.SameCalls (s.raise e detail) := {}

theorem State.setInput_sameCalls (s : State) (i : Fin 12) (x : Input) : s.SameCalls (s.setInput i x) := {}

/-- A function's record replaced by one of the same effective value. -/
theorem State.setFn_sameCalls (s : State) (f : Fn) (r : FnRecord) (hr : r.effective = s.eff f) :
    s.SameCalls (s.setFn f r) where
  eff g := by
    by_cases h : f = g
    · subst h; rw [State.eff, State.setFn_fn, hr]
    · rw [State.eff, State.setFn_fn_of_ne _ _ h, State.eff]

theorem State.switchTo_keepsFollowing (s : State) (f : Fn) (value : Nat) : s.KeepsFollowing (s.switchTo f value) := by
  obtain ⟨-, h⟩ | ⟨-, linkOnly, free, h⟩ | ⟨-, -, h⟩ := s.switchTo_cases f value <;> rw [h]
  · exact .refl s
  · refine (s.setFn_sameCalls f _ ?_).keeps
    simp [linkOnly, movedRecord, free, State.eff]
  · exact s.writeFn_keepsFollowing _ _ _

theorem State.raiseIfChanged_keepsFollowing (s before : State) (f : Fn) :
    s.KeepsFollowing (s.raiseIfChanged before f) := by
  unfold State.raiseIfChanged
  split
  · exact .refl s
  · exact (s.raise_sameCalls _ _).keeps

theorem State.switchByEdge_keepsFollowing (s : State) (f : Fn) (value : Nat) :
    s.KeepsFollowing (s.switchByEdge f value) :=
  (s.switchTo_keepsFollowing f value).trans (State.raiseIfChanged_keepsFollowing _ _ _)

theorem State.debounceTo_keepsFollowing (s : State) (i : Fin 12) (value : Debounced) :
    s.KeepsFollowing (s.debounceTo i value) := by
  have put := (s.setInput_sameCalls i { s.input i with debounced := value }).keeps
  obtain ⟨-, h⟩ | ⟨-, -, h⟩ | ⟨f, -, -, -, h⟩ | ⟨f, -, -, -, -, h⟩ := s.debounceTo_cases i value <;> rw [h]
  · exact .refl s
  · exact put
  · exact put.trans (State.switchByEdge_keepsFollowing _ _ _)
  · exact put.trans (State.switchByEdge_keepsFollowing _ _ _)

theorem State.expireDebounce_keepsFollowing (s : State) (i : Fin 12) : s.KeepsFollowing (s.expireDebounce i) :=
  (s.setInput_sameCalls i _).keeps.trans (State.debounceTo_keepsFollowing _ _ _)

theorem State.findFor_keepsFollowing (s : State) (f : Option Fn) (value : Fn → Nat) :
    s.KeepsFollowing (s.findFor f value) := by
  cases f with
  | none => exact .refl s
  | some f => exact s.switchTo_keepsFollowing f _

theorem State.settleIfDue_keepsFollowing (s : State) (i : Fin 12) : s.KeepsFollowing (s.settleIfDue i) := by
  unfold State.settleIfDue
  split
  · exact s.debounceTo_keepsFollowing _ _
  · exact .refl s

theorem State.replaceBinding_sameCalls (s : State) (i : Fin 12) (b : Binding) : s.SameCalls (s.replaceBinding i b) := by
  rw [State.replaceBinding_eq]
  exact {}

/-- SET_INPUT's steps are findings of switch values after the binding's replacement, and the settling (R7). -/
theorem State.bindInput_keepsFollowing (s : State) (i : Fin 12) (b : Binding) : s.KeepsFollowing (s.bindInput i b) := by
  have left : ∀ (u : State) old, u.KeepsFollowing (u.leaveFunction i old) := fun u old => by
    rw [State.leaveFunction_eq]; exact u.findFor_keepsFollowing _ _
  have joined : ∀ (u : State) bound, u.KeepsFollowing (u.joinFunction b bound) := fun u bound => by
    rw [State.joinFunction_eq]
    exact (u.findFor_keepsFollowing _ _).trans (State.findFor_keepsFollowing _ _ _)
  have rested : ∀ (u : State) old, u.KeepsFollowing (u.restUnbound old) := fun u old => by
    rw [State.restUnbound_eq]; exact u.findFor_keepsFollowing _ _
  exact ((((s.replaceBinding_sameCalls i b).keeps.trans (left _ _)).trans (joined _ _)).trans (rested _ _)).trans
    (State.settleIfDue_keepsFollowing _ _)

theorem State.cancelSide_keepsFollowing (s : State) (side : Side) : s.KeepsFollowing (s.cancelSide side) :=
  ((s.writeFn_keepsFollowing s _ _).trans (State.raiseIfChanged_keepsFollowing _ _ _)).trans
    (State.raise_sameCalls _ _ _).keeps

theorem State.expireIfDue_keepsFollowing (s : State) (side : Side) : s.KeepsFollowing (s.expireIfDue side) := by
  unfold State.expireIfDue
  repeat' split
  · exact s.cancelSide_keepsFollowing side
  · exact .refl s
  · exact .refl s

/-! ### Taking a request -/

/-- A programming that begins without its supply fails at that same moment (R156). -/
theorem State.startProgramming_sameCalls (s : State) (image : Image) : s.SameCalls (s.startProgramming image) := by
  have begun : s.startProgramming image = if s.storeCondition then s.beginProgramming image
      else (s.beginProgramming image).failProgramming image .lowSupply := rfl
  rw [begun]
  split
  · rename_i supplied
    exact { flight := fun _ => .inr supplied }
  · exact { flight := nofun }

theorem State.withReservation_sameCalls (s : State) (r : Option Fn) : s.SameCalls { s with reservation := r } := {}

theorem State.changeFlasher_keepsFollowing (s : State) (rate limit : Nat) :
    s.KeepsFollowing (s.changeFlasher rate limit) := by
  unfold State.changeFlasher
  exact ((s.react_keepsFollowing _).trans (State.expireIfDue_keepsFollowing _ _)).trans
    (State.expireIfDue_keepsFollowing _ _)

/-- Taking a request leaves nothing lagging. -/
theorem takeRequest_keepsFollowing (i : Instr) (take : State → State × Reply) (h : takeRequest i = some take)
    (s : State) : s.KeepsFollowing (take s).1 := by
  have same : ∀ {t : State}, s.SameCalls t → s.KeepsFollowing t := State.SameCalls.keeps
  cases i <;> simp only [takeRequest, reduceCtorEq, Option.some.injEq] at h <;> subst h
  case hello => exact .refl s
  case restart => unfold takeRestart; split <;> exact same {}
  case readEvents => exact same {}
  case setEvent => unfold takeSetEvent; split <;> exact same {}
  case setAttnLevel => exact same {}
  case setLinkTimeout => exact same {}
  case readDemand =>
    unfold takeReadDemand
    split
    · dsimp only [accept_state]; split <;> exact same {}
    · exact .refl s
  case setDemand =>
    unfold takeSetDemand
    repeat' split
    · exact .refl s
    · exact .refl s
    · exact s.writeFn_keepsFollowing s _ _
  case setDemandIf =>
    unfold takeSetDemandIf
    repeat' split
    · exact .refl s
    · exact .refl s
    · exact (s.writeFn_keepsFollowing s _ _).trans (State.withReservation_sameCalls _ none).keeps
    · exact same {}
  case releaseDemand =>
    unfold takeReleaseDemand
    repeat' split
    · exact .refl s
    · exact .refl s
    · exact s.writeFn_keepsFollowing s _ _
  case setFunction =>
    unfold takeSetFunction
    split
    · exact s.writeFn_keepsFollowing _ _ _
    · exact .refl s
  case setInput =>
    unfold takeSetInput
    split
    · exact s.bindInput_keepsFollowing _ _
    · exact .refl s
  case readInputs => unfold takeReadInputs; split <;> exact .refl s
  case setMap =>
    unfold takeSetMap
    split
    · dsimp only
      repeat' split
      · exact .refl s
      · exact .refl s
      · exact s.react_keepsFollowing _
    · exact .refl s
  case readMap => unfold takeReadMap; split <;> exact .refl s
  case setRole =>
    unfold takeSetRole
    split
    · exact .refl s
    · exact s.react_keepsFollowing _
  case setChannel =>
    unfold takeSetChannel
    split
    · dsimp only
      repeat' split
      · exact .refl s
      · exact s.react_keepsFollowing _
      · exact .refl s
    · exact .refl s
  case readChannel => unfold takeReadChannel; split <;> exact .refl s
  case clearChannel =>
    unfold takeClearChannel
    split
    · exact .refl s
    · exact s.react_keepsFollowing _
  case setFlasher => exact s.changeFlasher_keepsFollowing _ _
  case readFlasher => exact .refl s
  case setGauge => unfold takeSetGauge; split <;> exact same {}
  case readGauge =>
    unfold takeReadGauge
    split
    · dsimp only [accept_state]; split <;> exact same {}
    · exact .refl s
  case setGaugePosition => unfold takeSetGaugePosition; repeat' split
                           all_goals exact same {}
  case setSender => unfold takeSetSender; split <;> exact same {}
  case readSender => unfold takeReadSender; split <;> exact .refl s
  case setFan =>
    unfold takeSetFan
    split
    · exact .refl s
    · exact s.react_keepsFollowing _
  case readFan => exact .refl s
  case setSupply =>
    unfold takeSetSupply
    split
    · exact .refl s
    · dsimp only
      split
      · exact s.react_keepsFollowing _
      · exact .refl s
  case readSupply =>
    unfold takeReadSupply
    split
    · exact .refl s
    · dsimp only [accept_state]; split <;> exact same {}
  case tableOpen => unfold takeTableOpen; repeat' split
                    all_goals exact same {}
  case tablePoint => unfold takeTablePoint; repeat' split
                     all_goals exact same {}
  case tableCommit =>
    unfold takeTableCommit
    repeat' split
    · exact .refl s
    · exact .refl s
    · exact .refl s
    · exact .refl s
    · have closed : s.SameCalls (s.withStaging none) := {}
      exact closed.keeps.trans (State.startProgramming_sameCalls _ _).keeps
  case tableRead => unfold takeTableRead; repeat' split
                    all_goals exact .refl s
  case saveSettings =>
    unfold takeSaveSettings
    split
    · exact .refl s
    · exact same (s.startProgramming_sameCalls _)
  case readStore => exact .refl s

/-! ### Frames -/

theorem takeFrame_keepsFollowing (frame : Frame) (s : State) : s.KeepsFollowing (takeFrame frame s).1 := by
  unfold takeFrame
  split
  · exact .refl s
  · exact .refl s
  · split
    · exact takeRequest_keepsFollowing _ _ (by assumption) s
    · exact .refl s

theorem State.withLink_sameCalls (s : State) (link : Link) : s.SameCalls { s with link := link } := {}

theorem State.answer_keepsFollowing (s : State) (frame : Frame) (take : State → State × Reply)
    (place : Frame → List Outgoing → List Outgoing) (h : ∀ s : State, s.KeepsFollowing (take s).1) :
    s.KeepsFollowing (s.answer frame take place) :=
  ((s.withLink_sameCalls _).keeps.trans (h _)).trans (State.withLink_sameCalls _ _).keeps

theorem State.validFrame_keepsFollowing (s : State) : s.KeepsFollowing s.validFrame := by
  have exited : s.KeepsFollowing (if s.link.limp then s.exitLimp else s) := by
    split
    · exact s.react_keepsFollowing _
    · exact .refl s
  exact exited.trans (State.withLink_sameCalls _ _).keeps

theorem State.holdPending_sameCalls (s : State) (frame : Frame) : s.SameCalls (s.holdPending frame) := by
  rw [State.holdPending_eq]
  exact {}

theorem State.handOn_keepsFollowing (s : State) (frame : Frame) (take : State → State × Reply)
    (h : ∀ s : State, s.KeepsFollowing (take s).1) : s.KeepsFollowing (s.handOn frame take) := by
  obtain ⟨-, -, e⟩ | ⟨-, e⟩ := s.handOn_cases frame take <;> rw [e]
  · exact s.validFrame_keepsFollowing.trans (State.answer_keepsFollowing _ _ _ _ h)
  · exact s.validFrame_keepsFollowing.trans (State.holdPending_sameCalls _ _).keeps

theorem State.whenPowered_keepsFollowing (s : State) (k : State → State) (h : ∀ s : State, s.KeepsFollowing (k s)) :
    s.KeepsFollowing (s.whenPowered k) := by
  unfold State.whenPowered
  split
  · exact h s
  · exact .refl s

theorem State.serve_keepsFollowing (s : State) (i : Instr) (take : State → State × Reply)
    (h : ∀ s : State, s.KeepsFollowing (take s).1) : s.KeepsFollowing (s.serve i take) := by
  refine s.whenPowered_keepsFollowing _ fun s => ?_
  split
  · exact s.handOn_keepsFollowing _ _ h
  · exact .refl s

theorem State.receive_sameCalls (s : State) (r : Receiver) : s.SameCalls (s.receive r) := {}

theorem State.queueError_sameCalls (s : State) (status : Status) : s.SameCalls (s.queueError status) := by
  unfold State.queueError
  split <;> exact {}

theorem State.refuseLength_keepsFollowing (s : State) : s.KeepsFollowing s.refuseLength :=
  (s.receive_sameCalls _).keeps.trans (State.queueError_sameCalls _ _).keeps

theorem State.checkFrame_keepsFollowing (s : State) (len : Byte) (frame : Frame) (chk : Byte) :
    s.KeepsFollowing (s.checkFrame len frame chk) := by
  unfold State.checkFrame
  dsimp only
  split
  · exact (s.receive_sameCalls _).keeps.trans (State.handOn_keepsFollowing _ _ _ (takeFrame_keepsFollowing frame))
  · exact (s.receive_sameCalls _).keeps.trans (State.queueError_sameCalls _ _).keeps

theorem State.receiveByte_keepsFollowing (s : State) (b : Byte) : s.KeepsFollowing (s.receiveByte b) := by
  unfold State.receiveByte
  split
  · split
    · exact (s.receive_sameCalls _).keeps
    · exact .refl s
  · split
    · exact s.refuseLength_keepsFollowing
    · exact (s.receive_sameCalls _).keeps
  · exact (s.receive_sameCalls _).keeps
  · exact (s.receive_sameCalls _).keeps
  · exact s.checkFrame_keepsFollowing _ _ _

theorem State.serveNext_keepsFollowing (s : State) : s.KeepsFollowing s.serveNext := by
  unfold State.serveNext
  dsimp only
  split
  · split
    · exact (s.withLink_sameCalls _).keeps
    · exact (s.withLink_sameCalls _).keeps.trans (State.answer_keepsFollowing _ _ _ _ (takeFrame_keepsFollowing _))
  · exact (s.withLink_sameCalls _).keeps

theorem State.sendReply_keepsFollowing (s : State) : s.KeepsFollowing s.sendReply := by
  unfold State.sendReply
  split
  · exact .refl s
  · dsimp only
    split
    · exact (s.withLink_sameCalls _).keeps.trans (State.serveNext_keepsFollowing _)
    · exact (s.withLink_sameCalls _).keeps

/-! ### Power -/

/-- Without an active role nothing is called. -/
theorem State.called_of_no_role {s : State} (h : ∀ r, s.roleActive r = false) (c : Fin 16) : s.called c = false := by
  have own : ∀ x, s.ownDemand x = .none := fun x => (s.ownDemand_eq_none x).2 fun k => by simp [State.gathers, h]
  have composed : s.composedDemand c = .none :=
    (s.composedDemand_eq_none c).2 ⟨own c, fun x => by simp [State.carriesTo, own x]⟩
  simp [State.called, composed]

/-- After a reset every function but INSTR has the effective value 0 (R21). -/
theorem State.startUp_eff (s : State) (detail : Nat) {f : Fn} (hf : f ≠ .instr) : (s.startUp detail).eff f = 0 := by
  have rest : f.restValue = 0 := by cases f <;> simp_all [Fn.restValue]
  rw [State.eff, State.startUp_fn]
  cases hm : (s.startUp detail).settings.modes[f.idx] <;> simp [startFunction, modeEvaluation, rest, hm]

theorem State.startUp_roleActive (s : State) (detail : Nat) (r : Role) : (s.startUp detail).roleActive r = false := by
  have charge : (s.startUp detail).supply.charge = false := rfl
  cases r <;> simp [State.roleActive, State.anySide, State.sideActive, State.throughIndicator, indicatorFn,
    State.startUp_eff, charge]

/-- After a reset every channel is OFF and uncalled, the cadence IDLE, and nothing runs (R64, R82, R149, R152). -/
theorem State.startUp_following (s : State) (detail : Nat) : (s.startUp detail).Following := by
  have anySide : (s.startUp detail).anySide = false := s.startUp_roleActive detail .indTell
  have runOn : ∀ side, (s.startUp detail).runOnRuns side = false := fun side => by
    simp [State.runOnRuns, State.throughIndicator, State.startUp_eff]
  have charge : (s.startUp detail).chargeCondition = false := by simp [State.chargeCondition, State.startUp_eff]
  refine ⟨⟨fun c => ?_, ?_⟩, charge.symm, (runOn .left).symm, (runOn .right).symm, nofun⟩
  · have off : (s.startUp detail).channels[c].state = .off := congrArg Channel.state (s.startUp_channel detail c)
    rw [off]
    exact ⟨nofun, fun _ => State.called_of_no_role (s.startUp_roleActive detail) c⟩
  · exact ⟨fun _ => anySide, fun _ => rfl⟩

theorem State.startUp_keepsFollowing (s : State) (detail : Nat) : s.KeepsFollowing (s.startUp detail) :=
  fun _ => s.startUp_following detail

theorem State.hold_keepsFollowing (s : State) : s.KeepsFollowing s.hold := by
  have held : (s.startUp 0).SameCalls s.hold := {}
  exact (s.startUp_keepsFollowing 0).trans held.keeps

/-! ### The commands of the clock and the samples -/

/-- A channel replaced by one of the same standing. -/
theorem State.setChannel_sameCalls (s : State) (c : Fin 16) (x : Channel) (h : (s.channel c).SameStanding x) :
    s.SameCalls (s.setChannel c x) where
  channels d := by
    by_cases hd : c = d
    · subst hd; rwa [State.setChannel_channel]
    · rw [State.setChannel_channel_of_ne _ _ hd]; exact {}

theorem State.setGauge_sameCalls (s : State) (g : Fin 4) (x : Gauge) : s.SameCalls (s.setGauge g x) := {}

/-- The steady part of an activation follows its first part: the channel conducts in both (R45, R49, R51). -/
theorem Channel.settleIn_sameStanding {x : Channel} {state : ChannelState} (window : Nat)
    (hx : x.state.conducting = true) (hs : state.conducting = true) : x.SameStanding (x.settleIn state window) := by
  obtain ⟨st, n, o, a, l, h, g, w, i⟩ := x
  cases st <;> cases state <;> simp only [ChannelState.conducting, reduceCtorEq] at hx hs <;>
    exact { off := by simp [Channel.settleIn] }

theorem Channel.runsAfter_sameStanding (x y : Channel) (threshold reading : Nat) (h : x.SameStanding y) :
    x.SameStanding (y.runsAfter threshold reading) := by
  unfold Channel.runsAfter
  split <;> exact ⟨h.conducting, h.off, h.failed⟩

theorem State.sampleChannel_keepsFollowing (s : State) (c : Fin 16) (milliamps : Nat) :
    s.KeepsFollowing (s.sampleChannel c milliamps) := by
  unfold State.sampleChannel
  dsimp only
  repeat' split
  · exact s.react_keepsFollowing _
  · exact (s.setChannel_sameCalls c _ (Channel.runsAfter_sameStanding _ _ _ _ {})).keeps
  · exact (s.setChannel_sameCalls c _ {}).keeps

theorem State.fanFault_sameCalls (s : State) (detail : Nat) : s.SameCalls (s.fanFault detail) := by
  unfold State.fanFault
  dsimp only
  split <;> exact {}

theorem State.sampleFan_keepsFollowing (s : State) (milliamps : Nat) : s.KeepsFollowing (s.sampleFan milliamps) := by
  unfold State.sampleFan
  dsimp only
  repeat' split
  · exact State.SameCalls.keeps {}
  · have kept : s.SameCalls { s with fan := { s.fan with current := currentReading fanTop milliamps } } := {}
    exact kept.keeps.trans (State.fanFault_sameCalls _ _).keeps
  · exact State.SameCalls.keeps {}

theorem State.sampleSender_sameCalls (s : State) (n : Fin 4) (pin : SenderPin) :
    s.SameCalls (s.sampleSender n pin) := by
  unfold State.sampleSender
  dsimp only
  split <;> exact {}

theorem State.updateGauge_sameCalls (s : State) (g : Fin 4) : s.SameCalls (s.updateGauge g) := by
  unfold State.updateGauge
  dsimp only
  repeat' split
  all_goals exact {}

theorem State.sampleDriver_sameCalls (s : State) (g : Fin 4) (milliamps : Nat) :
    s.SameCalls (s.sampleDriver g milliamps) := by
  unfold State.sampleDriver
  dsimp only
  repeat' split
  all_goals exact {}

theorem State.expireTimer_keepsFollowing (s : State) (runsIn : Bool) (timer : SupplyTimer) (next : SupplyState)
    (armed : Bool) : s.KeepsFollowing (s.expireTimer runsIn timer next armed) := by
  refine s.whenPowered_keepsFollowing _ fun s => ?_
  split
  · exact s.react_keepsFollowing _
  · exact .refl s

/-- A millisecond moves timers alone: none starts or stops, and no channel changes its state. -/
theorem State.tick_keepsFollowing (s : State) : s.KeepsFollowing s.tick := by
  refine s.whenPowered_keepsFollowing _ fun s => State.SameCalls.keeps ?_
  refine { runOn := fun side => ?_, channels := fun c => ?_, flight := fun some => .inl ?_ }
  · cases side <;> exact Option.isSome_map
  · have stands : (s.channel c).SameStanding ((s.channel c).tick (s.supply.state == .crank)) := {}
    rw [← vecOfFn_getElem_fin (fun c => (s.channel c).tick (s.supply.state == .crank)) c] at stands
    exact stands
  · rwa [← Option.isSome_map]

/-! ### Every command and every step -/

/-- A command that is no request leaves nothing lagging. -/
theorem exec_event_keepsFollowing (i : Instr) (h : frameOf? i = none) (s t : State) (ht : exec i s = .next t) :
    s.KeepsFollowing t := by
  have same : ∀ {t u : State}, t.SameCalls u → t.KeepsFollowing u := State.SameCalls.keeps
  cases i <;> simp only [frameOf?, reduceCtorEq] at h <;> obtain rfl := Host.Outcome.next.inj ht
  case powerOnReset => exact s.startUp_keepsFollowing 0
  case partRestart =>
    refine s.whenPowered_keepsFollowing _ fun s => ?_
    split
    · exact s.startUp_keepsFollowing 1
    · exact .refl s
  case frameReceived =>
    refine s.whenPowered_keepsFollowing _ fun s => ?_
    split
    · exact s.checkFrame_keepsFollowing _ _ _
    all_goals exact .refl s
  case frameBadLength =>
    refine s.whenPowered_keepsFollowing _ fun s => ?_
    split
    · exact s.refuseLength_keepsFollowing
    · exact .refl s
  case frameGapTimeout => exact s.whenPowered_keepsFollowing _ fun s => same (s.receive_sameCalls _)
  case replySent => exact s.whenPowered_keepsFollowing _ State.sendReply_keepsFollowing
  case unknownKindRequest =>
    refine s.whenPowered_keepsFollowing _ fun s => ?_
    split
    · exact .refl s
    · exact s.handOn_keepsFollowing _ _ fun s => .refl s
  case programmingComplete =>
    refine s.whenPowered_keepsFollowing _ fun s => ?_
    split
    · exact .refl s
    · repeat' split
      all_goals exact same { flight := nofun }
  case limpEntry =>
    refine s.whenPowered_keepsFollowing _ fun s => ?_
    split
    · exact .refl s
    · exact s.react_keepsFollowing _
  case switchRawChange => exact same (s.setInput_sameCalls _ _)
  case debounceExpiry => exact s.whenPowered_keepsFollowing _ fun s => s.expireDebounce_keepsFollowing _
  case runOnExpiry =>
    refine s.whenPowered_keepsFollowing _ fun s => ?_
    split
    · exact s.cancelSide_keepsFollowing _
    · exact .refl s
  case phaseBoundary =>
    refine s.whenPowered_keepsFollowing _ fun s => ?_
    split
    · exact .refl s
    · exact s.react_keepsFollowing _
  case inrushEnd c =>
    refine s.whenPowered_keepsFollowing _ fun s => ?_
    split
    · rename_i inrush
      exact same (s.setChannel_sameCalls c _ (Channel.settleIn_sameStanding _ (by rw [inrush]; rfl) rfl))
    · exact .refl s
  case pullInEnd c =>
    refine s.whenPowered_keepsFollowing _ fun s => ?_
    split
    · rename_i pullIn
      exact same (s.setChannel_sameCalls c _ (Channel.settleIn_sameStanding _ (by rw [pullIn]; rfl) rfl))
    · exact .refl s
  case channelSample => exact s.whenPowered_keepsFollowing _ fun s => s.sampleChannel_keepsFollowing _ _
  case lampOpenDetect c =>
    refine s.whenPowered_keepsFollowing _ fun s => ?_
    dsimp only
    repeat' split
    · rename_i flagged
      exact same (s.setChannel_sameCalls c _ { failed := by simp [Channel.hasFailed, flagged] })
    · exact s.react_keepsFollowing _
    · exact .refl s
  case lampOpenClear =>
    refine s.whenPowered_keepsFollowing _ fun s => ?_
    dsimp only
    split
    · exact s.react_keepsFollowing _
    · exact .refl s
  case goodRunExpiry c =>
    refine s.whenPowered_keepsFollowing _ fun s => ?_
    dsimp only
    split
    · exact same (s.setChannel_sameCalls c _ {})
    · exact .refl s
  case tripWaitEnd =>
    refine s.whenPowered_keepsFollowing _ fun s => ?_
    dsimp only
    split
    · exact s.react_keepsFollowing _
    · exact .refl s
  case senderSample => exact s.whenPowered_keepsFollowing _ fun s => same (s.sampleSender_sameCalls _ _)
  case gaugeUpdate =>
    exact s.whenPowered_keepsFollowing _ fun s =>
      (same (s.updateGauge_sameCalls _)).trans (same (State.setGauge_sameCalls _ _ _))
  case driverSample => exact s.whenPowered_keepsFollowing _ fun s => same (s.sampleDriver_sameCalls _ _)
  case driverWaitEnd =>
    refine s.whenPowered_keepsFollowing _ fun s => ?_
    split
    · exact same (s.setGauge_sameCalls _ _)
    · exact .refl s
  case settleWindowEnd =>
    refine s.whenPowered_keepsFollowing _ fun s => ?_
    split
    · exact s.react_keepsFollowing _
    · exact .refl s
  case fanSample => exact s.whenPowered_keepsFollowing _ fun s => s.sampleFan_keepsFollowing _
  case fanStall =>
    refine s.whenPowered_keepsFollowing _ fun s => ?_
    split
    · exact same (s.fanFault_sameCalls _)
    · exact .refl s
  case fanRampStep => refine s.whenPowered_keepsFollowing _ fun s => ?_; split <;> exact same {}
  case stallWaitEnd => refine s.whenPowered_keepsFollowing _ fun s => ?_; split <;> exact same {}
  case fanOpenDetect => refine s.whenPowered_keepsFollowing _ fun s => ?_; split <;> exact same {}
  case fanOpenClear => refine s.whenPowered_keepsFollowing _ fun s => ?_; split <;> exact same {}
  case sampleSlot => exact s.whenPowered_keepsFollowing _ fun s => s.react_keepsFollowing _
  case leanTimerExpiry => exact s.expireTimer_keepsFollowing _ _ _ _
  case budgetTimerExpiry => exact s.expireTimer_keepsFollowing _ _ _ _
  case recoveryTimerExpiry => exact s.expireTimer_keepsFollowing _ _ _ _
  case shedTimerExpiry => exact s.expireTimer_keepsFollowing _ _ _ _
  case unshedTimerExpiry => exact s.expireTimer_keepsFollowing _ _ _ _
  case crankExitTimerExpiry => exact s.expireTimer_keepsFollowing _ _ _ _
  case crankLimitTimerExpiry => exact s.expireTimer_keepsFollowing _ _ _ _
  case powerLoss => exact s.whenPowered_keepsFollowing _ State.hold_keepsFollowing
  case byteReceived => exact s.whenPowered_keepsFollowing _ fun s => s.receiveByte_keepsFollowing _

theorem exec_keepsFollowing (i : Instr) (s t : State) (ht : exec i s = .next t) : s.KeepsFollowing t := by
  cases hf : frameOf? i with
  | none => exact exec_event_keepsFollowing i hf s t ht
  | some frame =>
    obtain ⟨take, hk, he⟩ := exec_request i frame hf
    obtain rfl := Host.Outcome.next.inj ((he s).symm.trans ht)
    exact s.serve_keepsFollowing i take fun s => takeRequest_keepsFollowing i take hk s

theorem step_keepsFollowing (s t : State) (h : step s = .next t) : s.KeepsFollowing t := by
  obtain ⟨i, rest, h⟩ | ⟨i, h⟩ | rfl := step_cases h
  · have queued : s.SameCalls (s.withPending rest) := {}
    exact queued.keeps.trans (exec_keepsFollowing i _ t h)
  · have counted : s.SameCalls s.clockActed := {}
    exact counted.keeps.trans (exec_keepsFollowing i _ t h)
  · exact s.tick_keepsFollowing

end Sys2Proof.Machine

open Sys2Proof Sys2Proof.Machine

/-- Settles O57: every command, and a millisecond, either changes nothing that a call or a condition reads or ends in the
blocks' reaction; a reset leaves nothing called. -/
theorem everyStepLeavesNothingLagging : Obligations.EveryStepLeavesNothingLagging := by
  unfold Obligations.EveryStepLeavesNothingLagging
  exact fun s t calls conditions h => step_keepsFollowing s t h ⟨calls, conditions⟩

end

section
/-! SUPPORT. SET_MAP and SET_ROLE: what their takes accept and refuse (R30, R32). -/

namespace Sys2Proof.Machine

@[simp] theorem role?_idx (r : Role) : role? r.idx.val = some r := by
  simp [role?, index?]

theorem takeSetMap_accepts {s : State} {e a b : Fin 16} {r : Role} (on : Bool) (hab : a ≤ b)
    (held : (s.mapEntry e).enabled = false
      ∨ ((s.mapEntry e).role = r ∧ (s.mapEntry e).first = a ∧ (s.mapEntry e).last = b)) :
    takeSetMap e.val r.idx.val a.val b.val (bit on 1) s
      = accept (s.withMapEntry e ⟨r, a, b, on⟩).react (u8 e.val ++ mapEntryBytes ⟨r, a, b, on⟩) := by
  obtain off | ⟨hr, ha, hb⟩ := held
  · simp [takeSetMap, not_lt.2 hab, off]
  · simp [takeSetMap, not_lt.2 hab, hr, ha, hb]

theorem takeSetMap_refuses_in_use {s : State} {e a b : Fin 16} {r : Role} (on : Bool) (hab : a ≤ b)
    (enabled : (s.mapEntry e).enabled = true)
    (moved : ¬ ((s.mapEntry e).role = r ∧ (s.mapEntry e).first = a ∧ (s.mapEntry e).last = b)) :
    takeSetMap e.val r.idx.val a.val b.val (bit on 1) s = (s, u8 0x05) := by
  have changes : ((s.mapEntry e).role == r && (s.mapEntry e).first == a && (s.mapEntry e).last == b) = false := by
    simpa [and_assoc] using moved
  simp [takeSetMap, not_lt.2 hab, enabled, changes, refuse, Status.code]

theorem takeSetMap_refuses_order {a b : Fin 16} (s : State) (e : Fin 16) (r : Role) (on : Bool) (hab : b < a) :
    takeSetMap e.val r.idx.val a.val b.val (bit on 1) s = (s, u8 0x04) := by
  simp [takeSetMap, hab, refuse, Status.code]

theorem takeSetRole_accepts (s : State) (r : Role) (cls : Nat) : takeSetRole r.idx.val cls s
    = accept (s.withShedClass r (min cls 3)).react (u8 r.idx.val ++ u8 (min cls 3)) := by
  simp [takeSetRole]

/-- An accepted request that ends in the blocks' reaction settles the state it was taken on, whatever the reply put into
the link (R35, R163). -/
theorem exec_settles {s u : State} {i : Instr} {frame : Frame} {take : State → State × Reply} {fields : List Byte}
    (ha : s.attentive) (hf : frameOf? i = some frame) (hk : takeRequest i = some take)
    (ht : take (s.heard frame) = accept u.react fields) :
    ∃ t, exec i s = .next t ∧ ({ u with link := s.linkAfter frame (u8 0 ++ fields) } : State).settledAs t :=
  ⟨_, exec_accepted ha hf hk ht, u.react_settled.withLink _⟩

end Sys2Proof.Machine

open Sys2Proof Sys2Proof.Machine

/-- Settles O27: each request's take is one change of the working copy and the blocks' reaction, or a refusal. -/
theorem mapAndRoleTakeEffectAtOnce : Obligations.MapAndRoleTakeEffectAtOnce := by
  unfold Obligations.MapAndRoleTakeEffectAtOnce
  refine fun s hs => ⟨fun e r a b on => ⟨fun hab held => ?_, fun hab enabled moved => ?_, fun hab => ?_⟩,
    fun r cls => ?_⟩
  · exact exec_settles hs rfl rfl (takeSetMap_accepts (s := s.heard _) on hab held)
  · exact exec_answered hs rfl rfl (takeSetMap_refuses_in_use (s := s.heard _) on hab enabled moved)
  · exact exec_answered hs rfl rfl (takeSetMap_refuses_order (s.heard _) e r on hab)
  · exact exec_settles hs rfl rfl (takeSetRole_accepts (s.heard _) r cls)

end

section
/-! SUPPORT. A channel's current samples, its trips, and the ends of its open-test runs (R41, R53 to R59). -/

namespace Sys2Proof.Machine

/-! ### Samples -/

theorem exec_channelSample {s : State} (h : s.powered = true) (c : Fin 16) (milliamps : Nat) :
    exec (.channelSample c milliamps) s = .next (s.sampleChannel c milliamps) := by
  simp [exec, execChannelSample, State.whenPowered, h]

theorem channelTop_eq (c : Fin 16) : channelTop c = if c.val < 8 then 40000 else 10000 := by
  simp [channelTop, isHeavy]

/-- A trip is a reading above the limit in force, or at the top of the range, in a conducting state (R41, R57). -/
theorem isTrip_iff (k : ChannelConfig) (state : ChannelState) (top reading : Nat) : isTrip k state top reading = true ↔
    ((state = .inrush ∨ state = .pullIn) ∧ (k.inrushLimit < reading ∨ top ≤ reading))
    ∨ ((state = .on ∨ state = .hold) ∧ (k.runLimit < reading ∨ top ≤ reading)) := by
  cases state <;> simp [isTrip, ChannelConfig.limitIn]

/-- The channel with a reading as its latest current (R41). -/
def State.sampledChannel (s : State) (c : Fin 16) (reading : Nat) : Channel := { s.channel c with current := reading }

theorem State.sampleChannel_of_trip {s : State} {c : Fin 16} {milliamps reading : Nat}
    (hr : currentReading (channelTop c) milliamps = reading)
    (h : isTrip (s.channelConfig c) (s.channel c).state (channelTop c) reading = true) :
    s.sampleChannel c milliamps = ((s.setChannel c (s.sampledChannel c reading)).trip c).react := by
  subst hr
  exact if_pos h

theorem State.sampleChannel_of_quiet {s : State} {c : Fin 16} {milliamps reading : Nat}
    (hr : currentReading (channelTop c) milliamps = reading)
    (h : isTrip (s.channelConfig c) (s.channel c).state (channelTop c) reading = false) :
    s.sampleChannel c milliamps = s.setChannel c (if s.openTestRuns c = true then
      (s.sampledChannel c reading).runsAfter (s.channelConfig c).openThreshold reading
      else s.sampledChannel c reading) := by
  subst hr
  unfold State.sampleChannel
  dsimp only
  rw [if_neg (by simp [h])]
  split <;> rfl

/-! ### The ends of the open test's runs -/

/-- The low run has reached its figure: the OPEN flag is set (R53). -/
def State.openFound (s : State) (c : Fin 16) : State :=
  s.setChannel c { s.channel c with lowRun := some openTestTime, openFlag := true }

/-- The high run has reached its figure: the OPEN flag is clear (R54). -/
def State.openCleared (s : State) (c : Fin 16) : State :=
  s.setChannel c { s.channel c with highRun := reachRun openTestTime (s.channel c).highRun, openFlag := false }

theorem State.openFound_openFlag (s : State) (c : Fin 16) : ((s.openFound c).channel c).openFlag = true := by
  rw [State.openFound, State.setChannel_channel]

theorem State.openCleared_openFlag (s : State) (c : Fin 16) : ((s.openCleared c).channel c).openFlag = false := by
  rw [State.openCleared, State.setChannel_channel]

theorem exec_lampOpenDetect {s : State} (h : s.powered = true) (c : Fin 16) : exec (.lampOpenDetect c) s = .next
    (if s.openTestRuns c && (s.channel c).lowRun.isSome then
      if (s.channel c).openFlag then s.openFound c else ((s.openFound c).raise .lampOpen c.val).react
    else s) := by
  simp only [exec, execLampOpenDetect, State.whenPowered_on _ _ h, State.openFound]

theorem exec_lampOpenClear {s : State} (h : s.powered = true) (c : Fin 16) : exec (.lampOpenClear c) s = .next
    (if s.openTestRuns c && (s.channel c).highRun.isSome then (s.openCleared c).react else s) := by
  simp only [exec, execLampOpenClear, State.whenPowered_on _ _ h, State.openCleared]

/-- The reaction keeps every OPEN flag (R35). -/
theorem State.react_openFlag (s : State) (c : Fin 16) : (s.react.channel c).openFlag = (s.channel c).openFlag := by
  rw [State.react_channel]
  exact (Channel.follow_failed _ _ _).1

/-! ### Trips -/

/-- The first and second trip (R57). -/
theorem State.trip_waits {s : State} {c : Fin 16} (h : (s.channel c).tripCount < 2) : s.trip c =
    (s.setChannel c { (s.channel c).stopIn .tripWait with tripCount := (s.channel c).tripCount + 1 }).raise
      .lampShort c.val :=
  if_pos (by omega)

/-- The third trip, or one beyond it (R59). -/
theorem State.trip_locks {s : State} {c : Fin 16} (h : 2 ≤ (s.channel c).tripCount) : s.trip c =
    ((s.setChannel c { (s.channel c).stopIn .lockedOff with tripCount := 3 }).raise .lampShort c.val).raise
      .channelLocked c.val :=
  if_neg (by omega)

/-- A channel after a trip has stopped, and waits or is locked off (R57, R59). -/
theorem State.trip_channel (s : State) (c : Fin 16) : (s.trip c).channel c =
    if (s.channel c).tripCount < 2 then
      { (s.channel c).stopIn .tripWait with tripCount := (s.channel c).tripCount + 1 }
    else { (s.channel c).stopIn .lockedOff with tripCount := 3 } := by
  split
  · rw [State.trip_waits (by assumption)]; exact State.setChannel_channel _ _ _
  · rw [State.trip_locks (by omega)]; exact State.setChannel_channel _ _ _

theorem State.trip_lampShort (s : State) (c : Fin 16) : (s.trip c).event .lampShort = ⟨true, c.val⟩ := by
  obtain h | h := Nat.lt_or_ge (s.channel c).tripCount 2
  · rw [State.trip_waits h, State.raise_event]
  · rw [State.trip_locks h, State.raise_event_of_ne _ _ (by decide), State.raise_event]

theorem State.trip_channelLocked (s : State) (c : Fin 16) : (s.trip c).event .channelLocked =
    if (s.channel c).tripCount < 2 then s.event .channelLocked else ⟨true, c.val⟩ := by
  split
  · rw [State.trip_waits (by assumption), State.raise_event_of_ne _ _ (by decide)]; rfl
  · rw [State.trip_locks (by omega), State.raise_event]

/-- A trip changes the channel, LAMP_SHORT and CHANNEL_LOCKED alone (R57, R59). -/
theorem State.trip_eq (s : State) (c : Fin 16) : s.trip c = { s with
    channels := s.channels.set c ((s.trip c).channel c)
    events := (s.events.set Event.lampShort.idx ((s.trip c).event .lampShort)).set Event.channelLocked.idx
      ((s.trip c).event .channelLocked) } := by
  rw [State.trip_channel, State.trip_lampShort, State.trip_channelLocked]
  by_cases h : (s.channel c).tripCount < 2
  · have locked : (s.events.set Event.lampShort.idx ⟨true, c.val⟩).set Event.channelLocked.idx (s.event .channelLocked)
        = s.events.set Event.lampShort.idx ⟨true, c.val⟩ := by
      have kept : s.event .channelLocked = (s.raise .lampShort c.val).event .channelLocked :=
        (State.raise_event_of_ne _ _ (by decide)).symm
      rw [kept]
      exact Vector.set_getElem_self _
    rw [if_pos h, if_pos h, locked, State.trip_waits h]
    rfl
  · rw [if_neg h, if_neg h, State.trip_locks (by omega)]
    rfl

/-- A channel that waits or is locked off stays as it is under the reaction (R58, R60). -/
theorem State.react_channel_of_stopped {s : State} {c : Fin 16}
    (h : (s.channel c).state = .tripWait ∨ (s.channel c).state = .lockedOff) : s.react.channel c = s.channel c := by
  obtain ⟨-, -, -, stays⟩ := (s.channel c).follow_keeps (s.channelConfig c).profile
    (s.flasherFollow.chargeFollow.storeFollow.fanFollow.called c)
  rw [State.react_channel, stays h]

/-- A trip stays as it is under the reaction, which settles the other blocks (R36, R57, R59). -/
theorem State.trip_react (s : State) (c : Fin 16) :
    let t := (s.trip c).react
    t.channel c = (s.trip c).channel c ∧ t.event .lampShort = (s.trip c).event .lampShort
    ∧ t.event .channelLocked = (s.trip c).event .channelLocked
    ∧ ({ s with
        channels := s.channels.set c (t.channel c)
        events := (s.events.set Event.lampShort.idx (t.event .lampShort)).set Event.channelLocked.idx
          (t.event .channelLocked) } : State).settledAs t := by
  intro t
  have channel : t.channel c = (s.trip c).channel c := State.react_channel_of_stopped (by
    rw [State.trip_channel]
    split
    · exact .inl rfl
    · exact .inr rfl)
  have short : t.event .lampShort = (s.trip c).event .lampShort := State.react_event _ _ (by decide) (by decide)
  have locked : t.event .channelLocked = (s.trip c).event .channelLocked :=
    State.react_event _ _ (by decide) (by decide)
  refine ⟨channel, short, locked, ?_⟩
  rw [channel, short, locked, ← State.trip_eq]
  exact State.react_settled _

end Sys2Proof.Machine

open Sys2Proof Sys2Proof.Machine

/-- Settles O32: a quiet sample puts the channel alone, and either end of a run is one put and the blocks' reaction. -/
theorem openTestRunsOnQuietSamples : Obligations.OpenTestRunsOnQuietSamples := by
  unfold Obligations.OpenTestRunsOnQuietSamples
  refine ⟨fun s c milliamps hp => ?_, fun s c hp => ?_⟩
  · intro x k top reading tested put pulse steady
    have read : currentReading (channelTop c) milliamps = reading := by rw [channelTop_eq]
    have quiet : isTrip k x.state (channelTop c) reading = false := by
      rw [Bool.eq_false_iff, ne_eq, isTrip_iff, channelTop_eq]
      rintro (⟨state, above⟩ | ⟨state, above⟩)
      · have within := pulse state; omega
      · have within := steady state; omega
    have runs : s.openTestRuns c = true ↔ tested := s.openTestRuns_iff c
    rw [exec_channelSample hp, State.sampleChannel_of_quiet read quiet]
    refine ⟨fun ht hl => ?_, fun ht hl => ?_, fun ht => ?_⟩
    · rw [if_pos (runs.2 ht), Channel.runsAfter, if_pos hl]; rfl
    · rw [if_pos (runs.2 ht), Channel.runsAfter, if_neg (not_lt.2 hl)]; rfl
    · rw [if_neg (mt runs.1 ht)]; rfl
  · intro x tested
    have runs : s.openTestRuns c = true ↔ tested := s.openTestRuns_iff c
    have ends : ∀ run : Option Nat, (s.openTestRuns c && run.isSome) = true ↔ tested ∧ run ≠ none := fun run => by
      rw [Bool.and_eq_true, runs, Option.isSome_iff_ne_none]
    rw [exec_lampOpenDetect hp, exec_lampOpenClear hp]
    refine ⟨fun ht hr => ⟨_, rfl, ?_⟩, fun h => ?_, fun ht hr => ⟨_, rfl, ?_⟩, fun h => ?_⟩
    · rw [if_pos ((ends _).2 ⟨ht, hr⟩)]
      cases flag : x.openFlag with
      | true => exact ⟨s.openFound_openFlag c, fun _ => rfl, nofun⟩
      | false => exact ⟨(State.react_openFlag _ c).trans (s.openFound_openFlag c), nofun, fun _ => State.react_settled _⟩
    · rw [if_neg (mt (ends _).1 (by tauto))]
    · rw [if_pos ((ends _).2 ⟨ht, hr⟩)]
      exact ⟨(State.react_openFlag _ c).trans (s.openCleared_openFlag c), State.react_settled _⟩
    · rw [if_neg (mt (ends _).1 (by tauto))]

/-- Settles O33: the sample is `State.trip`, whose channel and events the reaction leaves as they are. -/
theorem tripStopsTheChannel : Obligations.TripStopsTheChannel := by
  unfold Obligations.TripStopsTheChannel
  intro s c milliamps hp x k top reading above
  have read : currentReading (channelTop c) milliamps = reading := by rw [channelTop_eq]
  have trips : isTrip k x.state (channelTop c) reading = true := by
    rw [isTrip_iff, channelTop_eq]
    exact above
  have sampled := State.setChannel_channel s c (s.sampledChannel c reading)
  obtain ⟨channel, short, locked, settled⟩ := (s.setChannel c (s.sampledChannel c reading)).trip_react c
  rw [State.trip_channel, sampled] at channel
  rw [State.trip_lampShort] at short
  rw [State.trip_channelLocked, sampled] at locked
  refine ⟨_, (exec_channelSample hp c milliamps).trans (congrArg _ (State.sampleChannel_of_trip read trips)),
    fun few => ⟨?_, ?_⟩, fun many => ⟨?_, ?_⟩, short, ?_⟩
  · rw [channel]; exact if_pos few
  · rw [locked]; exact if_pos few
  · rw [channel]; exact if_neg (not_lt.2 many)
  · rw [locked]; exact if_neg (not_lt.2 many)
  · rw [State.setChannel_channels, Vector.set_set] at settled
    exact settled

end

section
/-! SUPPORT. The outputs along every step: which operations leave a channel's lock-off and the fan's duty alone, and how the
blocks' reaction brings the fan back in step with its target (R45, R57 to R62, R120, R123, R124, R127). -/

namespace Sys2Proof.Machine

/-! ### A channel's count -/

/-- A channel is in LOCKED_OFF exactly at a trip count of 3, its greatest value (R45, R57 to R62). -/
def Channel.Counted (x : Channel) : Prop := x.tripCount ≤ 3 ∧ (x.state = .lockedOff ↔ x.tripCount = 3)

theorem State.lockOffCounted_iff (s : State) : s.LockOffCounted ↔ ∀ c, (s.channel c).Counted := Iff.rfl

/-- A move that neither trips nor unlocks a channel. -/
theorem Channel.Counted.of_same {x y : Channel} (h : x.Counted) (count : y.tripCount = x.tripCount)
    (locked : y.state = .lockedOff ↔ x.state = .lockedOff) : y.Counted := by
  rw [Channel.Counted, count, locked]
  exact h

theorem Channel.Counted.follow {x : Channel} (h : x.Counted) (profile : Profile) (called : Bool) :
    (x.follow profile called).Counted :=
  h.of_same (x.follow_keeps profile called).1 (x.follow_failed profile called).2

/-- Moves between states other than LOCKED_OFF. -/
theorem Channel.Counted.move {x y : Channel} (h : x.Counted) (count : y.tripCount = x.tripCount)
    (before : x.state ≠ .lockedOff) (after : y.state ≠ .lockedOff) : y.Counted :=
  h.of_same count (iff_of_false after before)

theorem Channel.Counted.runsAfter {x : Channel} (h : x.Counted) (threshold reading : Nat) :
    (x.runsAfter threshold reading).Counted := by
  unfold Channel.runsAfter
  split <;> exact h

theorem Channel.counted_of_unlocked {x : Channel} (count : x.tripCount = 0) (state : x.state ≠ .lockedOff) :
    x.Counted := by
  simp [Channel.Counted, count, state]

/-! ### The fan's duty -/

/-- The fan's duty is 0 where it does not conduct: what its duty keeps while its target moves. -/
def Fan.Rests (f : Fan) : Prop := f.state.conducting = false → f.dutyNow = 0

/-- The fan's duty agrees with its state and a target duty (the tables of R120 and R124). -/
def Fan.InStep (f : Fan) (target : Nat) : Prop :=
  match f.state with
  | .off => f.dutyNow = 0 ∧ target = 0
  | .ramp => f.dutyNow < target
  | .run => f.dutyNow = target ∧ 0 < target
  | .stallWait | .stallLock => f.dutyNow = 0

theorem State.fanInStep_iff (s : State) : s.FanInStep ↔ s.fan.InStep s.fanTarget := Iff.rfl

theorem Fan.inStep_of_off {f : Fan} {target : Nat} (h : f.state = .off) :
    f.InStep target ↔ f.dutyNow = 0 ∧ target = 0 := by
  simp only [Fan.InStep, h]

theorem Fan.inStep_of_ramp {f : Fan} {target : Nat} (h : f.state = .ramp) :
    f.InStep target ↔ f.dutyNow < target := by
  simp only [Fan.InStep, h]

theorem Fan.inStep_of_run {f : Fan} {target : Nat} (h : f.state = .run) :
    f.InStep target ↔ f.dutyNow = target ∧ 0 < target := by
  simp only [Fan.InStep, h]

theorem Fan.inStep_of_stalled {f : Fan} {target : Nat} (h : f.state = .stallWait ∨ f.state = .stallLock) :
    f.InStep target ↔ f.dutyNow = 0 := by
  obtain h | h := h <;> simp only [Fan.InStep, h]

theorem Fan.InStep.rests {f : Fan} {target : Nat} (h : f.InStep target) : f.Rests := by
  intro stopped
  cases hs : f.state with
  | off => exact ((Fan.inStep_of_off hs).1 h).1
  | ramp => simp [hs, FanState.conducting] at stopped
  | run => simp [hs, FanState.conducting] at stopped
  | stallWait => exact (Fan.inStep_of_stalled (.inl hs)).1 h
  | stallLock => exact (Fan.inStep_of_stalled (.inr hs)).1 h

/-- The duty never exceeds the target (R123, R124). -/
theorem Fan.InStep.le_target {f : Fan} {target : Nat} (h : f.InStep target) : f.dutyNow ≤ target := by
  unfold Fan.InStep at h
  split at h <;> omega

/-- A ramp step to a target above 0 ends in RUN at the target, or in RAMP below it (R124). -/
theorem Fan.rampStep_inStep (f : Fan) (step : Nat) {target : Nat} (h : 0 < target) :
    (f.rampStep step target).InStep target := by
  unfold Fan.rampStep
  split
  · exact (Fan.inStep_of_run rfl).2 ⟨rfl, h⟩
  · exact (Fan.inStep_of_ramp rfl).2 (not_le.1 (by assumption))

/-- Following its target brings a fan that rests where it does not conduct in step with it (R124). -/
theorem Fan.follow_inStep {f : Fan} (h : f.Rests) (step target : Nat) : (f.follow step target).InStep target := by
  have stopped : ∀ {g : Fan}, g = f.stopIn .off → target = 0 → g.InStep target := by
    rintro g rfl zero
    exact (Fan.inStep_of_off rfl).2 ⟨rfl, zero⟩
  unfold Fan.follow
  split
  · rename_i off
    split
    · exact Fan.rampStep_inStep _ _ (by assumption)
    · exact (Fan.inStep_of_off off).2 ⟨h (by rw [off]; rfl), by omega⟩
  · rename_i ramp
    split
    · exact stopped rfl (by assumption)
    · split
      · exact (Fan.inStep_of_run rfl).2 ⟨rfl, by omega⟩
      · exact (Fan.inStep_of_ramp ramp).2 (by omega)
  · rename_i run
    split
    · exact stopped rfl (by assumption)
    · split
      · exact Fan.rampStep_inStep _ _ (by omega)
      · exact (Fan.inStep_of_run (f := { f with dutyNow := target }) run).2 ⟨rfl, by omega⟩
  · rename_i wait
    exact (Fan.inStep_of_stalled (.inl wait)).2 (h (by rw [wait]; rfl))
  · rename_i lock
    exact (Fan.inStep_of_stalled (.inr lock)).2 (h (by rw [lock]; rfl))

theorem Fan.rampStep_targetStep (f : Fan) (step target : Nat) : (f.rampStep step target).targetStep = f.targetStep := by
  unfold Fan.rampStep
  split <;> rfl

/-- A fan of the same target step has the same target duty. -/
theorem State.withFan_fanTarget (s : State) {f : Fan} (h : f.targetStep = s.fan.targetStep) :
    ({ s with fan := f } : State).fanTarget = s.fanTarget := by
  simp only [State.fanTarget, h]
  rfl

theorem State.fanFollow_inStep {s : State} (h : s.fan.Rests) : s.fanFollow.FanInStep := by
  rw [State.fanInStep_iff, State.fanFollow, State.withFan_fanTarget _ (Fan.follow_keeps _ _ _).2.2.1]
  exact Fan.follow_inStep h _ _

/-! ### Changes that keep the outputs, and changes that the reaction completes -/

/-- A change after which every channel is still counted, and the fan still in step with its target. -/
structure State.KeepsOutputs (s t : State) : Prop where
  counted : ∀ c, (s.channel c).Counted → (t.channel c).Counted := by exact fun _ => id
  inStep : s.FanInStep → t.FanInStep := by exact id

/-- A change that may move the fan's target: the fan still rests where it does not conduct. -/
structure State.KeepsRest (s t : State) : Prop where
  counted : ∀ c, (s.channel c).Counted → (t.channel c).Counted := by exact fun _ => id
  rests : s.fan.Rests → t.fan.Rests := by exact id

theorem State.KeepsOutputs.refl (s : State) : s.KeepsOutputs s := {}

theorem State.KeepsOutputs.trans {s t u : State} (h : s.KeepsOutputs t) (k : t.KeepsOutputs u) : s.KeepsOutputs u :=
  ⟨fun c => k.counted c ∘ h.counted c, k.inStep ∘ h.inStep⟩

theorem State.KeepsRest.refl (s : State) : s.KeepsRest s := {}

theorem State.KeepsRest.trans {s t u : State} (h : s.KeepsRest t) (k : t.KeepsRest u) : s.KeepsRest u :=
  ⟨fun c => k.counted c ∘ h.counted c, k.rests ∘ h.rests⟩

/-- The blocks' reaction lets the fan follow its target, whatever has moved it (R123, R124). -/
theorem State.KeepsRest.react {s t : State} (h : s.KeepsRest t) : s.KeepsOutputs t.react where
  counted c hc := by
    rw [State.react_channel]
    exact (h.counted c hc).follow _ _
  inStep hs := by
    rw [State.fanInStep_iff, State.react_fanTarget, State.react_fan]
    exact Fan.follow_inStep (h.rests (Fan.InStep.rests hs)) _ _

theorem State.startSettle_keepsRest (s : State) : s.KeepsRest s.startSettle := by
  unfold State.startSettle
  split <;> exact {}

theorem State.fanOnIgnition_keepsRest (s : State) (before : Nat) : s.KeepsRest (s.fanOnIgnition before) := by
  unfold State.fanOnIgnition
  repeat' split
  · exact .refl s
  · exact .refl s
  · exact s.startSettle_keepsRest
  · exact {}

/-- A STALL_LOCK released to OFF stands at 0 in both (R128). -/
theorem State.fanToZero_keepsRest (s : State) : s.KeepsRest s.fanToZero where
  rests h stopped := by
    have state : s.fanToZero.fan.state = if s.fan.state = .stallLock then .off else s.fan.state := rfl
    refine h ?_
    by_cases lock : s.fan.state = .stallLock
    · rw [lock]; rfl
    · rwa [state, if_neg lock] at stopped

theorem State.fanOnFunction_keepsRest (s : State) (before : Nat) : s.KeepsRest (s.fanOnFunction before) := by
  unfold State.fanOnFunction
  repeat' split
  · exact .refl s
  · exact s.fanToZero_keepsRest
  · exact s.startSettle_keepsRest

/-- A change of effective values reaches the fan's target, and then the fan follows (R9, R122). -/
theorem State.KeepsRest.reactFrom {s t : State} (h : s.KeepsRest t) (before : State) :
    s.KeepsOutputs (t.reactFrom before) :=
  ((h.trans (t.fanOnIgnition_keepsRest _)).trans (State.fanOnFunction_keepsRest _ _)).react

/-! ### The demand table -/

theorem State.writeFn_keepsOutputs (s : State) (f : Fn) (r : FnRecord) : s.KeepsOutputs (s.writeFn f r) := by
  have written : s.KeepsRest ((s.clearReservation f).setFn f r) := {}
  exact written.reactFrom s

theorem State.switchTo_keepsOutputs (s : State) (f : Fn) (value : Nat) : s.KeepsOutputs (s.switchTo f value) := by
  obtain ⟨-, h⟩ | ⟨-, -, -, h⟩ | ⟨-, -, h⟩ := s.switchTo_cases f value <;> rw [h]
  · exact .refl s
  · exact {}
  · exact s.writeFn_keepsOutputs _ _

theorem State.raiseIfChanged_keepsOutputs (s before : State) (f : Fn) :
    s.KeepsOutputs (s.raiseIfChanged before f) := by
  unfold State.raiseIfChanged
  split <;> exact {}

theorem State.switchByEdge_keepsOutputs (s : State) (f : Fn) (value : Nat) :
    s.KeepsOutputs (s.switchByEdge f value) :=
  (s.switchTo_keepsOutputs f value).trans (State.raiseIfChanged_keepsOutputs _ _ _)

theorem State.setInput_keepsOutputs (s : State) (i : Fin 12) (x : Input) : s.KeepsOutputs (s.setInput i x) := {}

theorem State.debounceTo_keepsOutputs (s : State) (i : Fin 12) (value : Debounced) :
    s.KeepsOutputs (s.debounceTo i value) := by
  have put := s.setInput_keepsOutputs i { s.input i with debounced := value }
  obtain ⟨-, h⟩ | ⟨-, -, h⟩ | ⟨f, -, -, -, h⟩ | ⟨f, -, -, -, -, h⟩ := s.debounceTo_cases i value <;> rw [h]
  · exact .refl s
  · exact put
  · exact put.trans (State.switchByEdge_keepsOutputs _ _ _)
  · exact put.trans (State.switchByEdge_keepsOutputs _ _ _)

theorem State.findFor_keepsOutputs (s : State) (f : Option Fn) (value : Fn → Nat) :
    s.KeepsOutputs (s.findFor f value) := by
  cases f with
  | none => exact .refl s
  | some f => exact s.switchTo_keepsOutputs f _

/-- SET_INPUT's steps are findings of switch values after the binding's replacement, and the settling (R7). -/
theorem State.bindInput_keepsOutputs (s : State) (i : Fin 12) (b : Binding) : s.KeepsOutputs (s.bindInput i b) := by
  have settled : ∀ u : State, u.KeepsOutputs (u.settleIfDue i) := fun u => by
    unfold State.settleIfDue
    split
    · exact u.debounceTo_keepsOutputs _ _
    · exact .refl u
  have replaced : s.KeepsOutputs (s.replaceBinding i b) := by
    rw [State.replaceBinding_eq]
    exact {}
  unfold State.bindInput
  rw [State.leaveFunction_eq, State.joinFunction_eq, State.restUnbound_eq]
  exact ((((replaced.trans (State.findFor_keepsOutputs _ _ _)).trans (State.findFor_keepsOutputs _ _ _)).trans
    (State.findFor_keepsOutputs _ _ _)).trans (State.findFor_keepsOutputs _ _ _)).trans (settled _)

theorem State.cancelSide_keepsOutputs (s : State) (side : Side) : s.KeepsOutputs (s.cancelSide side) := by
  have raised : ∀ (u : State) detail, u.KeepsOutputs (u.raise .indTimeout detail) := fun _ _ => {}
  exact ((s.writeFn_keepsOutputs _ _).trans (State.raiseIfChanged_keepsOutputs _ _ _)).trans (raised _ _)

theorem State.expireIfDue_keepsOutputs (s : State) (side : Side) : s.KeepsOutputs (s.expireIfDue side) := by
  unfold State.expireIfDue
  repeat' split
  · exact s.cancelSide_keepsOutputs side
  · exact .refl s
  · exact .refl s

theorem State.raiseDemandChanges_keepsRest (s before : State) : s.KeepsRest (s.raiseDemandChanges before) := by
  rw [State.raiseDemandChanges_eq]
  exact {}

theorem State.enterLimp_keepsOutputs (s : State) : s.KeepsOutputs s.enterLimp := by
  have entered : s.KeepsRest s.limpEntered := {}
  exact (entered.trans (State.raiseDemandChanges_keepsRest _ s)).reactFrom s

theorem State.exitLimp_keepsOutputs (s : State) : s.KeepsOutputs s.exitLimp := by
  have left : s.KeepsRest s.limpLeft := {}
  exact (left.trans (State.raiseDemandChanges_keepsRest _ s)).reactFrom s

/-! ### The channels -/

/-- A channel replaced by one that is counted where it was. -/
theorem State.setChannel_counted (s : State) (c : Fin 16) {x : Channel} (h : (s.channel c).Counted → x.Counted)
    (d : Fin 16) (hd : (s.channel d).Counted) : ((s.setChannel c x).channel d).Counted := by
  by_cases hc : c = d
  · subst hc
    rw [State.setChannel_channel]
    exact h hd
  · rwa [State.setChannel_channel_of_ne _ _ hc]

theorem State.setChannel_keepsOutputs (s : State) (c : Fin 16) {x : Channel} (h : (s.channel c).Counted → x.Counted) :
    s.KeepsOutputs (s.setChannel c x) where
  counted := s.setChannel_counted c h

theorem State.setChannel_keepsRest (s : State) (c : Fin 16) {x : Channel} (h : (s.channel c).Counted → x.Counted) :
    s.KeepsRest (s.setChannel c x) where
  counted := s.setChannel_counted c h

theorem State.setChannel_react_keepsOutputs (s : State) (c : Fin 16) {x : Channel}
    (h : (s.channel c).Counted → x.Counted) : s.KeepsOutputs (s.setChannel c x).react :=
  (s.setChannel_keepsRest c h).react

/-- A first or second trip waits below the count of 3; the third locks off at it (R57, R59). -/
theorem State.trip_keepsRest (s : State) (c : Fin 16) : s.KeepsRest (s.trip c) := by
  obtain few | many := Nat.lt_or_ge (s.channel c).tripCount 2
  · have waits : Channel.Counted { (s.channel c).stopIn .tripWait with tripCount := (s.channel c).tripCount + 1 } := by
      simp only [Channel.Counted, Channel.stopIn, reduceCtorEq, false_iff]
      omega
    rw [State.trip_waits few]
    exact (s.setChannel_keepsRest c fun _ => waits).trans {}
  · have locks : Channel.Counted { (s.channel c).stopIn .lockedOff with tripCount := 3 } :=
      ⟨le_refl 3, iff_of_true rfl rfl⟩
    rw [State.trip_locks many]
    exact (s.setChannel_keepsRest c fun _ => locks).trans {}

theorem State.sampleChannel_keepsOutputs (s : State) (c : Fin 16) (milliamps : Nat) :
    s.KeepsOutputs (s.sampleChannel c milliamps) := by
  have sampled : ∀ reading, (s.channel c).Counted → (s.sampledChannel c reading).Counted := fun _ h =>
    h.of_same rfl Iff.rfl
  cases trips : isTrip (s.channelConfig c) (s.channel c).state (channelTop c)
      (currentReading (channelTop c) milliamps) with
  | true =>
    rw [State.sampleChannel_of_trip rfl trips]
    exact ((s.setChannel_keepsRest c (sampled _)).trans (State.trip_keepsRest _ c)).react
  | false =>
    rw [State.sampleChannel_of_quiet rfl trips]
    refine s.setChannel_keepsOutputs c fun h => ?_
    split
    · exact (sampled _ h).runsAfter _ _
    · exact sampled _ h

/-- CLEAR_CHANNEL takes the count to 0 and leaves no channel locked off (R62). -/
theorem State.clearChannel_keepsOutputs (s : State) (c : Fin 16) : s.KeepsOutputs (s.clearChannel c) := by
  refine s.setChannel_react_keepsOutputs c fun _ => Channel.counted_of_unlocked rfl ?_
  dsimp only
  split
  · nofun
  · assumption

/-! ### The fan -/

/-- A stall or a trip stops the fan, whose duty is then 0 (R127). -/
theorem State.fanFault_keepsOutputs (s : State) (detail : Nat) : s.KeepsOutputs (s.fanFault detail) := by
  unfold State.fanFault
  dsimp only
  split <;> exact { inStep := fun _ => rfl }

theorem Fan.openAfter_keeps (f : Fan) (reading : Nat) : (f.openAfter reading).state = f.state
    ∧ (f.openAfter reading).dutyNow = f.dutyNow ∧ (f.openAfter reading).targetStep = f.targetStep := by
  unfold Fan.openAfter
  split <;> exact ⟨rfl, rfl, rfl⟩

/-- A fan of the same state, duty and target step is in step where it was. -/
theorem State.withFan_keepsOutputs (s : State) {f : Fan} (state : f.state = s.fan.state)
    (duty : f.dutyNow = s.fan.dutyNow) (targetStep : f.targetStep = s.fan.targetStep) :
    s.KeepsOutputs { s with fan := f } where
  inStep h := by
    rw [State.fanInStep_iff, State.withFan_fanTarget s targetStep]
    rw [State.fanInStep_iff] at h
    unfold Fan.InStep at h ⊢
    rwa [state, duty]

theorem State.sampleFan_keepsOutputs (s : State) (milliamps : Nat) : s.KeepsOutputs (s.sampleFan milliamps) := by
  have kept : s.KeepsOutputs { s with fan := { s.fan with current := currentReading fanTop milliamps } } :=
    s.withFan_keepsOutputs rfl rfl rfl
  unfold State.sampleFan
  dsimp only
  repeat' split
  · exact kept
  · exact kept.trans (State.fanFault_keepsOutputs _ _)
  · obtain ⟨state, duty, targetStep⟩ := Fan.openAfter_keeps (Fan.stallAfter _ _ _ _) _
    exact s.withFan_keepsOutputs state duty targetStep

/-- In RAMP the target is above 0, and a ramp step leaves the fan in step with it (R124). -/
theorem State.rampStep_keepsOutputs {s : State} (h : s.fan.state = .ramp) : s.KeepsOutputs
    { s with fan := s.fan.rampReached.rampStep s.settings.fan.rampStep s.fanTarget } where
  inStep hs := by
    have below : s.fan.dutyNow < s.fanTarget := (Fan.inStep_of_ramp h).1 hs
    rw [State.fanInStep_iff, State.withFan_fanTarget s (Fan.rampStep_targetStep s.fan.rampReached _ _)]
    exact Fan.rampStep_inStep _ _ (by omega)

theorem State.endStallWait_keepsOutputs (s : State) :
    s.KeepsOutputs ({ s with fan := s.fan.stopIn .off } : State).fanFollow where
  inStep _ := State.fanFollow_inStep fun _ => rfl

theorem State.changeFan_keepsOutputs (s : State) (cfg : FanConfig) : s.KeepsOutputs (s.changeFan cfg) := by
  have fed : ∀ (u : State) before, u.KeepsRest (u.fanOnFeed before) := fun u before => by
    unfold State.fanOnFeed
    dsimp only
    repeat' split
    · exact .refl u
    · exact {}
    · exact .refl u
    · exact u.startSettle_keepsRest
  have judged : ∀ u : State, u.KeepsRest u.settleWindowJudged := fun u => by
    unfold State.settleWindowJudged
    repeat' split
    all_goals exact {}
  have set : s.KeepsRest { s with settings := { s.settings with fan := cfg } } := {}
  exact ((set.trans (fed _ _)).trans (judged _)).react

/-! ### The supply watch, which moves the cap -/

theorem State.moveSupply_keepsRest (s : State) (next : SupplyState) (armed : Bool) :
    s.KeepsRest (s.moveSupply next armed) where
  counted c hc := by
    have moved : (s.moveSupply next armed).channel c
        = if s.supply.state == .crank || next == .crank then (s.channel c).runsHeld else s.channel c :=
      vecOfFn_getElem_fin _ c
    rw [moved]
    split <;> exact hc
  rests h := by
    have moved : (s.moveSupply next armed).fan
        = if s.supply.state == .crank || next == .crank then { s.fan with stallRun := none } else s.fan := rfl
    rw [moved]
    split <;> exact h

theorem State.takeTransition_keepsRest (s : State) (bat : Nat) : s.KeepsRest (s.takeTransition bat) := by
  have moves : ∀ next armed, s.KeepsRest (s.moveSupply next armed) := s.moveSupply_keepsRest
  unfold State.takeTransition
  cases s.supply.state with
  | normal | lean =>
    dsimp only
    repeat' split
    · exact moves _ _
    · exact moves _ _
    · exact moves _ _
    · exact .refl s
  | shed =>
    dsimp only
    repeat' split
    · exact moves _ _
    · exact moves _ _
    · exact {}
  | crank =>
    dsimp only
    repeat' split
    · exact moves _ _
    · exact moves _ _
    · exact .refl s

theorem State.judgeSlot_keepsRest (s : State) (bat dyn : Nat) : s.KeepsRest (s.judgeSlot bat dyn) := by
  have sampled : s.KeepsRest (s.takeSamples bat dyn) := {}
  have judged : ∀ u : State, u.KeepsRest u.chargeFollow := fun u => by
    unfold State.chargeFollow
    dsimp only
    split <;> exact {}
  have timed : ∀ (u : State) mean, u.KeepsRest (u.runTimers mean) := fun _ _ => {}
  exact ((sampled.trans (judged _)).trans (timed _ _)).trans (State.takeTransition_keepsRest _ _)

/-! ### Taking a request -/

theorem State.startProgramming_keepsOutputs (s : State) (image : Image) :
    s.KeepsOutputs (s.startProgramming image) := by
  unfold State.startProgramming State.storeFollow
  repeat' split
  all_goals exact {}

theorem State.changeFlasher_keepsOutputs (s : State) (rate limit : Nat) :
    s.KeepsOutputs (s.changeFlasher rate limit) := by
  have set : s.KeepsRest { s with settings := { s.settings with flashRate := rate, runOnLimit := limit } } := {}
  exact (set.react.trans (State.expireIfDue_keepsOutputs _ _)).trans (State.expireIfDue_keepsOutputs _ _)

theorem State.withReservation_keepsOutputs (s : State) (r : Option Fn) : s.KeepsOutputs { s with reservation := r } := {}

/-- Taking a request keeps the outputs: it writes a function, ends in the blocks' reaction, or moves neither a channel nor
the fan nor what the fan's target reads. -/
theorem takeRequest_keepsOutputs (i : Instr) (take : State → State × Reply) (h : takeRequest i = some take)
    (s : State) : s.KeepsOutputs (take s).1 := by
  have reacts : ∀ {t : State}, s.KeepsRest t → s.KeepsOutputs t.react := State.KeepsRest.react
  cases i <;> simp only [takeRequest, reduceCtorEq, Option.some.injEq] at h <;> subst h
  case hello | readFlasher | readFan | readStore => exact .refl s
  case readEvents | setAttnLevel | setLinkTimeout => exact {}
  case restart | setEvent | readDemand | readInputs | readMap | readChannel | setGauge | readGauge | setGaugePosition
      | setSender | readSender | readSupply | tableOpen | tablePoint | tableRead =>
    dsimp only [takeRestart, takeSetEvent, takeReadDemand, takeReadInputs, takeReadMap, takeReadChannel, takeSetGauge,
      takeReadGauge, takeSetGaugePosition, takeSetSender, takeReadSender, takeReadSupply, takeTableOpen,
      takeTablePoint, takeTableRead, accept_state]
    repeat' split
    all_goals exact {}
  case setDemand | releaseDemand =>
    dsimp only [takeSetDemand, takeReleaseDemand]
    repeat' split
    · exact .refl s
    · exact .refl s
    · exact s.writeFn_keepsOutputs _ _
  case setDemandIf =>
    unfold takeSetDemandIf
    repeat' split
    · exact .refl s
    · exact .refl s
    · exact (s.writeFn_keepsOutputs _ _).trans (State.withReservation_keepsOutputs _ none)
    · exact s.withReservation_keepsOutputs none
  case setFunction =>
    unfold takeSetFunction
    split
    · rename_i f mode _ _
      have moded : s.KeepsOutputs (s.withMode f mode) := {}
      exact moded.trans (State.writeFn_keepsOutputs _ _ _)
    · exact .refl s
  case setInput =>
    unfold takeSetInput
    split
    · exact s.bindInput_keepsOutputs _ _
    · exact .refl s
  case setMap =>
    unfold takeSetMap
    split
    · dsimp only
      repeat' split
      · exact .refl s
      · exact .refl s
      · exact reacts {}
    · exact .refl s
  case setRole =>
    unfold takeSetRole
    split
    · exact .refl s
    · exact reacts {}
  case setChannel =>
    unfold takeSetChannel
    split
    · dsimp only
      repeat' split
      · exact .refl s
      · exact reacts {}
      · exact .refl s
    · exact .refl s
  case clearChannel =>
    unfold takeClearChannel
    split
    · exact .refl s
    · exact s.clearChannel_keepsOutputs _
  case setFlasher => exact s.changeFlasher_keepsOutputs _ _
  case setFan =>
    unfold takeSetFan
    split
    · exact .refl s
    · exact s.changeFan_keepsOutputs _
  case setSupply =>
    unfold takeSetSupply
    split
    · exact .refl s
    · dsimp only
      split
      · exact reacts {}
      · exact .refl s
  case tableCommit =>
    unfold takeTableCommit
    repeat' split
    · exact .refl s
    · exact .refl s
    · exact .refl s
    · exact .refl s
    · have closed : s.KeepsOutputs (s.withStaging none) := {}
      exact closed.trans (State.startProgramming_keepsOutputs _ _)
  case saveSettings =>
    unfold takeSaveSettings
    split
    · exact .refl s
    · exact s.startProgramming_keepsOutputs _

/-! ### Frames -/

theorem takeFrame_keepsOutputs (frame : Frame) (s : State) : s.KeepsOutputs (takeFrame frame s).1 := by
  unfold takeFrame
  split
  · exact .refl s
  · exact .refl s
  · split
    · exact takeRequest_keepsOutputs _ _ (by assumption) s
    · exact .refl s

theorem State.withLink_keepsOutputs (s : State) (link : Link) : s.KeepsOutputs { s with link := link } := {}

theorem State.answer_keepsOutputs (s : State) (frame : Frame) (take : State → State × Reply)
    (place : Frame → List Outgoing → List Outgoing) (h : ∀ s : State, s.KeepsOutputs (take s).1) :
    s.KeepsOutputs (s.answer frame take place) :=
  ((s.withLink_keepsOutputs _).trans (h _)).trans (State.withLink_keepsOutputs _ _)

theorem State.validFrame_keepsOutputs (s : State) : s.KeepsOutputs s.validFrame := by
  unfold State.validFrame
  dsimp only
  split
  · exact s.exitLimp_keepsOutputs.trans (State.withLink_keepsOutputs _ _)
  · exact s.withLink_keepsOutputs _

theorem State.handOn_keepsOutputs (s : State) (frame : Frame) (take : State → State × Reply)
    (h : ∀ s : State, s.KeepsOutputs (take s).1) : s.KeepsOutputs (s.handOn frame take) := by
  have waits : ∀ u : State, u.KeepsOutputs (u.holdPending frame) := fun u => by
    rw [State.holdPending_eq]
    exact {}
  obtain ⟨-, -, e⟩ | ⟨-, e⟩ := s.handOn_cases frame take <;> rw [e]
  · exact s.validFrame_keepsOutputs.trans (State.answer_keepsOutputs _ _ _ _ h)
  · exact s.validFrame_keepsOutputs.trans (waits _)

theorem State.whenPowered_keepsOutputs (s : State) (k : State → State) (h : ∀ s : State, s.KeepsOutputs (k s)) :
    s.KeepsOutputs (s.whenPowered k) := by
  unfold State.whenPowered
  split
  · exact h s
  · exact .refl s

theorem State.serve_keepsOutputs (s : State) (i : Instr) (take : State → State × Reply)
    (h : ∀ s : State, s.KeepsOutputs (take s).1) : s.KeepsOutputs (s.serve i take) := by
  refine s.whenPowered_keepsOutputs _ fun s => ?_
  split
  · exact s.handOn_keepsOutputs _ _ h
  · exact .refl s

theorem State.receive_keepsOutputs (s : State) (r : Receiver) : s.KeepsOutputs (s.receive r) :=
  s.withLink_keepsOutputs _

theorem State.queueError_keepsOutputs (s : State) (status : Status) : s.KeepsOutputs (s.queueError status) := by
  unfold State.queueError
  split
  · exact .refl s
  · exact s.withLink_keepsOutputs _

theorem State.refuseLength_keepsOutputs (s : State) : s.KeepsOutputs s.refuseLength :=
  (s.receive_keepsOutputs _).trans (State.queueError_keepsOutputs _ _)

theorem State.checkFrame_keepsOutputs (s : State) (len : Byte) (frame : Frame) (chk : Byte) :
    s.KeepsOutputs (s.checkFrame len frame chk) := by
  unfold State.checkFrame
  dsimp only
  split
  · exact (s.receive_keepsOutputs _).trans (State.handOn_keepsOutputs _ _ _ (takeFrame_keepsOutputs frame))
  · exact (s.receive_keepsOutputs _).trans (State.queueError_keepsOutputs _ _)

theorem State.receiveByte_keepsOutputs (s : State) (b : Byte) : s.KeepsOutputs (s.receiveByte b) := by
  unfold State.receiveByte
  split
  · split
    · exact s.receive_keepsOutputs _
    · exact .refl s
  · split
    · exact s.refuseLength_keepsOutputs
    · exact s.receive_keepsOutputs _
  · exact s.receive_keepsOutputs _
  · exact s.receive_keepsOutputs _
  · exact s.checkFrame_keepsOutputs _ _ _

theorem State.serveNext_keepsOutputs (s : State) : s.KeepsOutputs s.serveNext := by
  unfold State.serveNext
  dsimp only
  split
  · split
    · exact s.withLink_keepsOutputs _
    · exact (s.withLink_keepsOutputs _).trans (State.answer_keepsOutputs _ _ _ _ (takeFrame_keepsOutputs _))
  · exact s.withLink_keepsOutputs _

theorem State.sendReply_keepsOutputs (s : State) : s.KeepsOutputs s.sendReply := by
  unfold State.sendReply
  split
  · exact .refl s
  · dsimp only
    split
    · exact (s.withLink_keepsOutputs _).trans (State.serveNext_keepsOutputs _)
    · exact s.withLink_keepsOutputs _

/-! ### Power, the clock, and every command -/

/-- After a reset every channel is OFF with a count of 0, and the fan is OFF at duty 0 with target step 0 (R64, R132). -/
theorem State.startUp_keepsOutputs (s : State) (detail : Nat) : s.KeepsOutputs (s.startUp detail) where
  counted c _ := by
    rw [State.startUp_channel]
    exact Channel.counted_of_unlocked rfl nofun
  inStep _ := ⟨rfl, Nat.zero_min _⟩

theorem State.hold_keepsOutputs (s : State) : s.KeepsOutputs s.hold := by
  have held : (s.startUp 0).KeepsOutputs s.hold := {}
  exact (s.startUp_keepsOutputs 0).trans held

/-- A millisecond moves timers alone. -/
theorem State.tick_keepsOutputs (s : State) : s.KeepsOutputs s.tick := by
  refine s.whenPowered_keepsOutputs _ fun s => { counted := fun c hc => ?_ }
  have ticked : ((s.channel c).tick (s.supply.state == .crank)).Counted := hc.of_same rfl Iff.rfl
  rwa [← vecOfFn_getElem_fin (fun c => (s.channel c).tick (s.supply.state == .crank)) c] at ticked

theorem State.expireTimer_keepsOutputs (s : State) (runsIn : Bool) (timer : SupplyTimer) (next : SupplyState)
    (armed : Bool) : s.KeepsOutputs (s.expireTimer runsIn timer next armed) := by
  refine s.whenPowered_keepsOutputs _ fun s => ?_
  split
  · exact (s.moveSupply_keepsRest next armed).react
  · exact .refl s

/-- A command that is no request keeps the outputs. -/
theorem exec_event_keepsOutputs (i : Instr) (h : frameOf? i = none) (s t : State) (ht : exec i s = .next t) :
    s.KeepsOutputs t := by
  have powered : ∀ {k : State → State}, (∀ s : State, s.KeepsOutputs (k s)) → s.KeepsOutputs (s.whenPowered k) :=
    s.whenPowered_keepsOutputs _
  cases i <;> simp only [frameOf?, reduceCtorEq] at h <;> obtain rfl := Host.Outcome.next.inj ht
  case powerOnReset => exact s.startUp_keepsOutputs 0
  case partRestart =>
    refine powered fun s => ?_
    split
    · exact s.startUp_keepsOutputs 1
    · exact .refl s
  case frameReceived =>
    refine powered fun s => ?_
    split
    · exact s.checkFrame_keepsOutputs _ _ _
    all_goals exact .refl s
  case frameBadLength =>
    refine powered fun s => ?_
    split
    · exact s.refuseLength_keepsOutputs
    · exact .refl s
  case frameGapTimeout => exact powered fun s => s.receive_keepsOutputs _
  case replySent => exact powered State.sendReply_keepsOutputs
  case unknownKindRequest =>
    refine powered fun s => ?_
    split
    · exact .refl s
    · exact s.handOn_keepsOutputs _ _ fun s => .refl s
  case limpEntry =>
    refine powered fun s => ?_
    split
    · exact .refl s
    · exact s.enterLimp_keepsOutputs
  case switchRawChange => exact s.setInput_keepsOutputs _ _
  case debounceExpiry =>
    exact powered fun s => (s.setInput_keepsOutputs _ _).trans (State.debounceTo_keepsOutputs _ _ _)
  case runOnExpiry =>
    refine powered fun s => ?_
    split
    · exact s.cancelSide_keepsOutputs _
    · exact .refl s
  case phaseBoundary =>
    refine powered fun s => ?_
    split
    · exact .refl s
    · exact State.KeepsRest.react {}
  case inrushEnd c =>
    refine powered fun s => ?_
    split
    · rename_i inrush
      exact s.setChannel_keepsOutputs c fun hc => hc.move rfl (by simp [inrush]) nofun
    · exact .refl s
  case pullInEnd c =>
    refine powered fun s => ?_
    split
    · rename_i pullIn
      exact s.setChannel_keepsOutputs c fun hc => hc.move rfl (by simp [pullIn]) nofun
    · exact .refl s
  case channelSample => exact powered fun s => s.sampleChannel_keepsOutputs _ _
  case lampOpenDetect c =>
    refine powered fun s => ?_
    dsimp only
    repeat' split
    · exact s.setChannel_keepsOutputs c id
    · have found : s.KeepsRest ((s.openFound c).raise .lampOpen c.val) := { counted := s.setChannel_counted c id }
      exact found.react
    · exact .refl s
  case lampOpenClear c =>
    refine powered fun s => ?_
    dsimp only
    split
    · exact s.setChannel_react_keepsOutputs c id
    · exact .refl s
  case goodRunExpiry c =>
    refine powered fun s => ?_
    dsimp only
    split
    · rename_i tested
      refine s.setChannel_keepsOutputs c fun _ => Channel.counted_of_unlocked rfl ?_
      obtain on | hold := (ChannelState.tested_iff _).1 tested
      · simp [on]
      · simp [hold]
    · exact .refl s
  case tripWaitEnd c =>
    refine powered fun s => ?_
    dsimp only
    split
    · rename_i waits
      exact s.setChannel_react_keepsOutputs c fun hc => hc.move rfl (by simp [waits]) nofun
    · exact .refl s
  case settleWindowEnd =>
    refine powered fun s => ?_
    split
    · exact State.KeepsRest.react {}
    · exact .refl s
  case fanRampStep =>
    refine powered fun s => ?_
    split
    · exact State.rampStep_keepsOutputs (by assumption)
    · exact .refl s
  case fanSample => exact powered fun s => s.sampleFan_keepsOutputs _
  case fanStall =>
    refine powered fun s => ?_
    split
    · exact s.fanFault_keepsOutputs _
    · exact .refl s
  case stallWaitEnd =>
    refine powered fun s => ?_
    split
    · exact s.endStallWait_keepsOutputs
    · exact .refl s
  case sampleSlot => exact powered fun s => (s.judgeSlot_keepsRest _ _).react
  case leanTimerExpiry | budgetTimerExpiry | recoveryTimerExpiry | shedTimerExpiry | unshedTimerExpiry
      | crankExitTimerExpiry | crankLimitTimerExpiry => exact s.expireTimer_keepsOutputs _ _ _ _
  case powerLoss => exact powered State.hold_keepsOutputs
  case byteReceived => exact powered fun s => s.receiveByte_keepsOutputs _
  case fanOpenDetect | fanOpenClear =>
    refine powered fun s => ?_
    split
    · exact s.withFan_keepsOutputs rfl rfl rfl
    · exact .refl s
  case programmingComplete | driverWaitEnd =>
    refine powered fun s => ?_
    repeat' split
    all_goals exact {}
  case senderSample | driverSample =>
    refine powered fun s => ?_
    dsimp only [State.sampleSender, State.sampleDriver]
    repeat' split
    all_goals exact {}
  case gaugeUpdate g =>
    have updated : ∀ s : State, s.KeepsOutputs (s.updateGauge g) := fun s => by
      unfold State.updateGauge
      dsimp only
      repeat' split
      all_goals exact {}
    exact powered fun s => (updated s).trans {}

theorem exec_keepsOutputs (i : Instr) (s t : State) (ht : exec i s = .next t) : s.KeepsOutputs t := by
  cases hf : frameOf? i with
  | none => exact exec_event_keepsOutputs i hf s t ht
  | some frame =>
    obtain ⟨take, hk, he⟩ := exec_request i frame hf
    obtain rfl := Host.Outcome.next.inj ((he s).symm.trans ht)
    exact s.serve_keepsOutputs i take fun s => takeRequest_keepsOutputs i take hk s

theorem step_keepsOutputs (s t : State) (h : step s = .next t) : s.KeepsOutputs t := by
  obtain ⟨i, rest, h⟩ | ⟨i, h⟩ | rfl := step_cases h
  · have queued : s.KeepsOutputs (s.withPending rest) := {}
    exact queued.trans (exec_keepsOutputs i _ t h)
  · have counted : s.KeepsOutputs s.clockActed := {}
    exact counted.trans (exec_keepsOutputs i _ t h)
  · exact s.tick_keepsOutputs

/-- A fan in step with its target never exceeds the cap (R123). -/
theorem State.FanInStep.le_cap {s : State} (h : s.FanInStep) : s.fan.dutyNow ≤ s.fanCap :=
  (Fan.InStep.le_target h).trans (Nat.min_le_right _ _)

end Sys2Proof.Machine

open Sys2Proof Sys2Proof.Machine

/-- Settles O58: every command, and a millisecond, either keeps what the outputs read or ends in the blocks' reaction, in
which the fan follows its target; a fan in step with its target is below the cap. -/
theorem everyStepKeepsOutputsInStep : Obligations.EveryStepKeepsOutputsInStep := by
  unfold Obligations.EveryStepKeepsOutputsInStep
  intro s t h
  obtain ⟨counted, inStep⟩ := step_keepsOutputs s t h
  exact ⟨fun hs => t.lockOffCounted_iff.2 fun c => counted c (s.lockOffCounted_iff.1 hs c), fun hs =>
    ⟨inStep hs, State.FanInStep.le_cap (inStep hs)⟩⟩

end

section
/-! SUPPORT. SET_CHANNEL and CLEAR_CHANNEL: what their takes accept and refuse (R41 to R44, R62). -/

namespace Sys2Proof.Machine

/-! ### SET_CHANNEL -/

@[simp] theorem profile?_code (p : Profile) : profile? p.code = some p := by cases p <;> rfl

/-- The number a substitute field carries: the channel's, or 0xFF for none (R174). -/
def substituteCode : Option (Fin 16) → Nat
  | some x => x.val
  | none => 0xFF

@[simp] theorem orNone?_substituteCode (x : Option (Fin 16)) :
    orNone? (index? 16) (substituteCode x) = some x := by
  cases x with
  | none => rfl
  | some c =>
    have below : c.val ≠ 0xFF := by omega
    simp [orNone?, substituteCode, below]

theorem u8OrNone_substitute (x : Option (Fin 16)) : u8OrNone (x.map fun c => c.val) = u8 (substituteCode x) := by
  cases x <;> rfl

/-- The ranges of a channel's configuration, by its group (R41 to R43). -/
theorem channelConfigOf_eq (c : Fin 16) (profile : Profile) (inrush pullIn hold run limit openAt : Nat)
    (substitute : Option (Fin 16)) :
    let runLimit := if c.val < 8 then max 1000 (min 20000 run) else max 250 (min 6000 run)
    let top := if c.val < 8 then 40000 else 10000
    channelConfigOf c profile inrush pullIn hold run limit openAt substitute =
      { profile := profile
        inrushWindow := if inrush = 0 then (if profile = .led then 5 else 100) else max 5 (min 500 inrush)
        pullIn := max 50 (min 1000 pullIn), holdDuty := max 200 (min 1000 hold), runLimit := runLimit
        inrushLimit := max runLimit (min top limit), openThreshold := max 20 (min 2000 openAt)
        substitute := substitute } := by
  simp only [channelConfigOf, clampRunLimit, isHeavy, channelTop_eq, inrushWindowOf, clamp, decide_eq_true_eq]

theorem takeSetChannel_accepts {s : State} {c : Fin 16} (profile : Profile)
    (inrush pullIn hold run limit openAt : Nat) {substitute : Option (Fin 16)} (own : substitute ≠ some c)
    (off : (s.channel c).state = .off ∨ (s.channel c).state = .lockedOff) :
    let k := channelConfigOf c profile inrush pullIn hold run limit openAt substitute
    takeSetChannel c.val profile.code inrush pullIn hold run limit openAt (substituteCode substitute) s
      = accept (s.withChannelConfig c k).react (u8 c.val ++ channelConfigBytes k) := by
  simp [takeSetChannel, own, off]

theorem takeSetChannel_refuses_in_use {s : State} {c : Fin 16} (profile : Profile)
    (inrush pullIn hold run limit openAt : Nat) {substitute : Option (Fin 16)} (own : substitute ≠ some c)
    (busy : ¬ ((s.channel c).state = .off ∨ (s.channel c).state = .lockedOff)) :
    takeSetChannel c.val profile.code inrush pullIn hold run limit openAt (substituteCode substitute) s
      = (s, u8 0x05) := by
  simp [takeSetChannel, own, busy, refuse, Status.code]

theorem takeSetChannel_refuses_own {c : Fin 16} (profile : Profile) (inrush pullIn hold run limit openAt : Nat)
    (s : State) : takeSetChannel c.val profile.code inrush pullIn hold run limit openAt (substituteCode (some c)) s
      = (s, u8 0x04) := by
  simp [takeSetChannel, refuse, Status.code]

/-! ### CLEAR_CHANNEL -/

/-- What CLEAR_CHANNEL puts before the blocks react: the count at 0, LOCKED_OFF taken to OFF (R62). -/
def State.countCleared (s : State) (c : Fin 16) : State :=
  s.setChannel c { s.channel c with
    tripCount := 0, state := if (s.channel c).state = .lockedOff then .off else (s.channel c).state }

theorem State.clearChannel_eq (s : State) (c : Fin 16) : s.clearChannel c = (s.countCleared c).react := rfl

/-- A cleared channel has a count of 0 and is not locked off, whatever the reaction makes of it (R62). -/
theorem State.clearChannel_unlocks (s : State) (c : Fin 16) :
    ((s.clearChannel c).channel c).tripCount = 0 ∧ ((s.clearChannel c).channel c).state ≠ .lockedOff := by
  rw [State.clearChannel_eq, State.react_channel, State.countCleared, State.setChannel_channel]
  refine ⟨(Channel.follow_keeps _ _ _).1, fun locked => ?_⟩
  have before := (Channel.follow_failed _ _ _).2.1 locked
  dsimp only at before
  split at before
  · exact nomatch before
  · contradiction

theorem takeClearChannel_accepts (s : State) (c : Fin 16) : takeClearChannel c.val s
    = accept (s.clearChannel c) (u8 ((s.clearChannel c).channel c).state.code ++ u8 0) := by
  simp [takeClearChannel, (s.clearChannel_unlocks c).1]

theorem takeClearChannel_refuses {n : Nat} (h : 16 ≤ n) (s : State) : takeClearChannel n s = (s, u8 0x04) := by
  simp [takeClearChannel, index?, not_lt.2 h, refuse, Status.code]

end Sys2Proof.Machine

open Sys2Proof Sys2Proof.Machine

/-- Settles O29: SET_CHANNEL's take is one change of the working copy and the blocks' reaction, or a refusal. -/
theorem channelSettingsAreTakenInRange : Obligations.ChannelSettingsAreTakenInRange := by
  unfold Obligations.ChannelSettingsAreTakenInRange
  intro s c profile inrush pullIn hold run limit openAt substitute hs
  refine ⟨fun own off => ?_, fun own busy => ?_, ?_⟩
  · have settles := exec_settles
      (i := .setChannel c.val profile.code inrush pullIn hold run limit openAt (substituteCode substitute)) hs rfl rfl
      (takeSetChannel_accepts (s := s.heard _) profile inrush pullIn hold run limit openAt own off)
    rw [channelConfigOf_eq, channelConfigBytes, u8OrNone_substitute] at settles
    exact settles
  · exact exec_answered hs rfl rfl
      (takeSetChannel_refuses_in_use (s := s.heard _) profile inrush pullIn hold run limit openAt own busy)
  · rintro rfl
    exact exec_answered hs rfl rfl (takeSetChannel_refuses_own profile inrush pullIn hold run limit openAt (s.heard _))

/-- Settles O30: the take is `State.clearChannel`, one put and the blocks' reaction. -/
theorem clearChannelUnlocksIt : Obligations.ClearChannelUnlocksIt := by
  unfold Obligations.ClearChannelUnlocksIt
  refine fun s hs => ⟨fun c => ?_, fun n hn => exec_answered hs rfl rfl (takeClearChannel_refuses hn (s.heard _))⟩
  have cleared := (s.heard ⟨0x24, u8 c.val⟩).clearChannel_unlocks c
  exact ⟨_, exec_accepted hs rfl rfl (takeClearChannel_accepts (s.heard _) c), cleared.1, cleared.2,
    ((s.heard _).countCleared c).react_settled.withLink _⟩

end

section
/-! SUPPORT. The timers of an activation, each command an equation (R48 to R51, R58, R61). -/

namespace Sys2Proof.Machine

variable {s : State} (h : s.powered = true) (c : Fin 16)
include h

theorem exec_inrushEnd : exec (.inrushEnd c) s = .next (if (s.channel c).state = .inrush then
    s.setChannel c ((s.channel c).settleIn .on (s.channelConfig c).inrushWindow) else s) := by
  simp only [exec, execInrushEnd, State.whenPowered_on _ _ h]

theorem exec_pullInEnd : exec (.pullInEnd c) s = .next (if (s.channel c).state = .pullIn then
    s.setChannel c ((s.channel c).settleIn .hold (s.channelConfig c).pullIn) else s) := by
  simp only [exec, execPullInEnd, State.whenPowered_on _ _ h]

theorem exec_tripWaitEnd : exec (.tripWaitEnd c) s = .next (if (s.channel c).state = .tripWait then
    (s.setChannel c ((s.channel c).stopIn .off)).react else s) := by
  simp only [exec, execTripWaitEnd, State.whenPowered_on _ _ h]

theorem exec_goodRunExpiry : exec (.goodRunExpiry c) s
    = .next (if (s.channel c).state = .on ∨ (s.channel c).state = .hold then
      s.setChannel c { s.channel c with tripCount := 0, goodRun := max goodRunTime (s.channel c).goodRun }
      else s) := by
  simp only [exec, execGoodRunExpiry, State.whenPowered_on _ _ h, ChannelState.tested_iff]

end Sys2Proof.Machine

open Sys2Proof Sys2Proof.Machine

/-- Settles O31: each timer puts its channel in its own state alone, and the end of a trip wait lets the blocks react. -/
theorem activationTimersMoveTheChannel : Obligations.ActivationTimersMoveTheChannel := by
  unfold Obligations.ActivationTimersMoveTheChannel
  intro s c hp
  rw [exec_inrushEnd hp, exec_pullInEnd hp, exec_tripWaitEnd hp, exec_goodRunExpiry hp]
  refine ⟨fun is => ?_, fun isNot => ?_, fun is => ?_, fun isNot => ?_, fun is => ?_, fun isNot => ?_, fun is => ?_,
    fun notOn notHold => ?_⟩
  · rw [if_pos is]; rfl
  · rw [if_neg isNot]
  · rw [if_pos is]; rfl
  · rw [if_neg isNot]
  · rw [if_pos is]; exact ⟨_, rfl, State.react_settled _⟩
  · rw [if_neg isNot]
  · rw [if_pos is]; rfl
  · rw [if_neg (not_or.2 ⟨notOn, notHold⟩)]

end

section
/-! SUPPORT. The conditions of the supply watch and the voltage and resistance readings, once for each (R84, R133, R139,
R146). -/

namespace Sys2Proof.Machine

/-- The charge condition compares the means as whole numbers, so a margin above the BAT mean meets none (R146). -/
theorem State.chargeCondition_iff (s : State) : s.chargeCondition = true ↔
    s.eff .ign = 1 ∧ s.supply.batMean ≠ none ∧ s.supply.dynMean ≠ none
      ∧ (s.supply.dynMean.getD 0 : Int) < (s.supply.batMean.getD 0 : Int) - s.settings.supply.chargeMargin := by
  cases hb : s.supply.batMean with
  | none => simp [State.chargeCondition, hb]
  | some bat =>
    cases hd : s.supply.dynMean with
    | none => simp [State.chargeCondition, hb, hd]
    | some dyn =>
      have below : dyn + s.settings.supply.chargeMargin < bat
          ↔ (dyn : Int) < (bat : Int) - s.settings.supply.chargeMargin := by omega
      simp [State.chargeCondition, hb, hd, below]

theorem State.storeCondition_iff (s : State) : s.storeCondition = true ↔ s.supply.state ≠ .crank
    ∧ s.supply.batMean ≠ none ∧ s.settings.supply.storeMinimum ≤ s.supply.batMean.getD 0 := by
  cases hb : s.supply.batMean <;> simp [State.storeCondition, hb]

/-- A voltage lies within 5 mV of its reading, which ends at 25,000 mV (R133, log 6). -/
theorem voltageReading_near (millivolts : Nat) : ∃ steps, voltageReading millivolts = min 25000 (10 * steps)
    ∧ 10 * steps ≤ millivolts + 5 ∧ millivolts ≤ 10 * steps + 5 := by
  obtain ⟨low, high⟩ := nearestStep_near 10 millivolts (Config.voltageTieReadsUp millivolts) (by decide)
  exact ⟨_, rfl, by omega, by omega⟩

/-- A resistance lies within half a tenth of an ohm of its reading, which ends at 5000 tenths (R84, log 7). -/
theorem senderReading_near (milliohms : Nat) : ∃ tenths,
    senderReading (.resistance milliohms) = min 5000 tenths
    ∧ 100 * tenths ≤ milliohms + 50 ∧ milliohms ≤ 100 * tenths + 50 := by
  obtain ⟨low, high⟩ := nearestStep_near 100 milliohms (Config.resistanceTieReadsUp milliohms) (by decide)
  exact ⟨_, rfl, by omega, by omega⟩

end Sys2Proof.Machine

open Sys2Proof Sys2Proof.Machine

/-- Settles O25: a channel's duty is read off its state; the conditions and readings are their lemmas. -/
theorem viewsAndReadingsFollowTheirRules : Obligations.ViewsAndReadingsFollowTheirRules := by
  unfold Obligations.ViewsAndReadingsFollowTheirRules
  refine ⟨fun s c => ?_, fun s => ⟨s.chargeCondition_iff, s.storeCondition_iff⟩, currentReading_near,
    voltageReading_near, senderReading_near⟩
  unfold State.dutyNow
  cases (s.channel c).state <;> rfl

end

section
/-! SUPPORT. A phase boundary: what a reaction leaves of a running cadence, and what PHASE_BOUNDARY begins (R69 to R73). -/

namespace Sys2Proof.Machine

/-- A reaction moves no lamp into or out of failure, so a phase just fixed is still rightly doubled after it (R73). -/
@[simp] theorem State.react_judgesDoubled (s : State) : s.react.judgesDoubled = s.judgesDoubled :=
  State.judgesDoubled_congr (by simp) (by simp) fun c => by
    rw [State.react_channel]
    exact Channel.follow_failed _ _ _

/-- A reaction moves the run-on timers alone of a cadence that runs on an active side (R71, R76). -/
theorem State.react_flasher_of_running {s : State} (ha : s.anySide = true) (hr : s.flasher.cadence ≠ .idle) :
    s.react.flasher = { s.flasher with
      leftRunOn := s.react.flasher.leftRunOn, rightRunOn := s.react.flasher.rightRunOn } := by
  have active : s.react.anySide = true := (State.anySide_congr s.react_functions).trans ha
  obtain ⟨cadence, timer, length, doubled⟩ := s.react_cadence.2.2 active hr
  simp only [← cadence, ← timer, ← length, ← doubled]

/-- The phase after a boundary of a running cadence (R69). -/
theorem Cadence.flip_of_running {k : Cadence} (h : k ≠ .idle) :
    k.flip = if k = .onPhase then .offPhase else .onPhase := by
  cases k
  case idle => exact absurd rfl h
  all_goals rfl

theorem Cadence.flip_ne_idle {k : Cadence} (h : k ≠ .idle) : k.flip ≠ .idle := by
  rw [Cadence.flip_of_running h]
  split <;> decide

/-- A phase begun on an active side stands after the reaction as it was begun, its length and doubling fixed by what has
failed then (R69, R72, R73). -/
theorem State.beginPhase_react {s : State} {k : Cadence} (ha : s.anySide = true) (hk : k ≠ .idle) :
    (s.beginPhase k).react.flasher.cadence = k
    ∧ (s.beginPhase k).react.flasher.phaseTimer = 0
    ∧ (s.beginPhase k).react.phaseFixed
    ∧ s.beginPhase k = { s with flasher := { (s.beginPhase k).react.flasher with
        leftRunOn := s.flasher.leftRunOn, rightRunOn := s.flasher.rightRunOn } } := by
  have running := State.react_flasher_of_running (s := s.beginPhase k) ha hk
  refine ⟨by rw [running]; rfl, by rw [running]; rfl, State.phaseFixed_of_judged ?_ ?_, by rw [running]; rfl⟩
  · rw [running, State.react_judgesDoubled]; rfl
  · rw [running, State.react_settings]; rfl

theorem exec_phaseBoundary {s : State} (hp : s.powered = true) : exec .phaseBoundary s
    = .next (if s.flasher.cadence = .idle then s else (s.beginPhase s.flasher.cadence.flip).react) := by
  simp only [exec, execPhaseBoundary, State.whenPowered_on _ _ hp]

end Sys2Proof.Machine

open Sys2Proof Sys2Proof.Machine

/-- Settles O34: a boundary begins the other phase and lets the blocks react, which leaves that phase as it was begun. -/
theorem phaseBoundaryTurnsThePhase : Obligations.PhaseBoundaryTurnsThePhase := by
  unfold Obligations.PhaseBoundaryTurnsThePhase
  intro s hp
  rw [exec_phaseBoundary hp]
  refine ⟨fun idle => by rw [if_pos idle], fun running active => ?_⟩
  obtain ⟨cadence, timer, fixed, begun⟩ := State.beginPhase_react active (Cadence.flip_ne_idle running)
  rw [if_neg running]
  refine ⟨_, rfl, cadence.trans (Cadence.flip_of_running running), timer, fixed, ?_⟩
  rw [← begun]
  exact State.react_settled _

end

section
/-! SUPPORT. SET_GAUGE, SET_GAUGE_POSITION and SET_SENDER: what their takes accept and refuse; and a sender's sample as
one change of the state (R85 to R88, R91, R114, R115). -/

namespace Sys2Proof.Machine

/-! ### The requests -/

@[simp] theorem law?_code (l : Law) : law? l.code = some l := by cases l <;> rfl

@[simp] theorem policy?_code (p : Policy) : policy? p.code = some p := by cases p <;> rfl

/-- The number a field that may be none carries: the index, or 0xFF for none (R174). -/
def indexCode {n : Nat} : Option (Fin n) → Nat
  | some i => i.val
  | none => 0xFF

@[simp] theorem orNone?_indexCode {n : Nat} (h : n ≤ 0xFF) (b : Option (Fin n)) :
    orNone? (index? n) (indexCode b) = some b := by
  cases b with
  | none => rfl
  | some i =>
    have below : i.val ≠ 0xFF := by omega
    simp [orNone?, indexCode, below]

theorem u8OrNone_index {n : Nat} (b : Option (Fin n)) : u8OrNone (b.map fun i => i.val) = u8 (indexCode b) := by
  cases b <;> rfl

theorem takeSetGauge_accepts (s : State) (g : Fin 4) (binding : Option (Fin 4)) (law : Law) (k : Nat)
    (policy : Policy) : takeSetGauge g.val (indexCode binding) law.code k policy.code s = accept
      { s with settings := { s.settings with
          gauges := s.settings.gauges.set g ⟨binding, law, max 1 (min 256 k), policy⟩ } }
      (u8 (indexCode binding) ++ u8 law.code ++ u16 (max 1 (min 256 k)) ++ u8 policy.code) := by
  simp [takeSetGauge, clamp, u8OrNone_index]

theorem takeSetGaugePosition_accepts {s : State} {g : Fin 4} (free : (s.gaugeConfig g).binding = none)
    (position : Nat) : takeSetGaugePosition g.val position s = accept
      (s.setGauge g { s.gauge g with linkPosition := min position 1000 }) (u16 (min position 1000)) := by
  simp [takeSetGaugePosition, free]

theorem takeSetGaugePosition_refuses {s : State} {g : Fin 4} (bound : (s.gaugeConfig g).binding ≠ none)
    (position : Nat) : takeSetGaugePosition g.val position s = (s, u8 0x05) := by
  simp [takeSetGaugePosition, Option.isSome_iff_ne_none.2 bound, refuse, Status.code]

theorem takeSetSender_accepts (s : State) (n : Fin 4) (short openAt : Nat) :
    takeSetSender n.val short openAt s = accept
      (s.changeSender n ⟨min 100 short, max 1000 (min 5000 openAt)⟩)
      (u8 n.val ++ u16 (min 100 short) ++ u16 (max 1000 (min 5000 openAt))) := by
  simp [takeSetSender, clamp]

/-! ### The sample -/

/-- A completed sample: the sender's record put, and GAUGE_FAULT where its state has become OPEN or SHORTED (R88). -/
theorem State.sampleSender_eq (s : State) (n : Fin 4) (pin : SenderPin) :
    let after := (s.sender n).sampled (s.senderConfig n) (senderReading pin)
    s.sampleSender n pin = { s with
      senders := s.senders.set n after
      events := if after.state = (s.sender n).state ∨ after.state = .ok then s.events
        else s.events.set Event.gaugeFault.idx ⟨true, 16 + n.val⟩ } := by
  intro after
  unfold State.sampleSender
  by_cases quiet : after.state = (s.sender n).state ∨ after.state = .ok
  · rw [if_pos quiet, if_pos quiet]
    rfl
  · rw [if_neg quiet, if_neg quiet]
    rfl

theorem exec_senderSample {s : State} (hp : s.powered = true) (n : Fin 4) (pin : SenderPin) :
    exec (.senderSample n pin) s = .next (s.sampleSender n pin) := by
  simp only [exec, execSenderSample, State.whenPowered_on _ _ hp]

end Sys2Proof.Machine

open Sys2Proof Sys2Proof.Machine

/-- Settles O36: each request's take is one change of the settings and its record, or a refusal. -/
theorem gaugeAndSenderSettingsAreTaken : Obligations.GaugeAndSenderSettingsAreTaken := by
  unfold Obligations.GaugeAndSenderSettingsAreTaken
  refine fun s hs => ⟨fun g binding law k policy => ?_, fun g position => ⟨fun free => ?_, fun bound => ?_⟩,
    fun n short openAt => ?_⟩
  · have taken := exec_accepted (i := .setGauge g.val (indexCode binding) law.code k policy.code) hs rfl rfl
      (takeSetGauge_accepts (s.heard _) g binding law k policy)
    simp only [← List.append_assoc] at taken
    cases binding <;> exact taken
  · exact exec_accepted hs rfl rfl (takeSetGaugePosition_accepts (s := s.heard _) free position)
  · exact exec_answered hs rfl rfl (takeSetGaugePosition_refuses (s := s.heard _) bound position)
  · refine (exec_accepted hs rfl rfl (takeSetSender_accepts (s.heard _) n short openAt)).trans ?_
    simp only [← List.append_assoc]
    rfl

/-- Settles O37: the reading is the pin's, near its resistance; the rest is the sample's one change of the state. -/
theorem senderStateFollowsThreeReadings : Obligations.SenderStateFollowsThreeReadings := by
  unfold Obligations.SenderStateFollowsThreeReadings
  intro s n pin hp x k
  refine ⟨senderReading pin, ?_, ?_⟩
  · cases pin with
    | resistance milliohms => exact senderReading_near milliohms
    | broken => rfl
    | live => rfl
  · rw [exec_senderSample hp, State.sampleSender_eq]
    rfl

end

section
/-! SUPPORT. The arithmetic of a gauge: what a lookup finds, where the damping ends up, and the duty by the gauge's law (R98,
R102, R104 to R107). -/

namespace Sys2Proof.Machine

/-! ### Rounding -/

/-- A quotient of at most a whole number rounds to at most that number. -/
theorem roundHalfUp_le {num den m : Nat} (h : 0 < den) (hm : num ≤ den * m) : roundHalfUp num den ≤ m := by
  obtain ⟨low, -⟩ := roundHalfUp_nearest num den h
  refine Nat.lt_succ_iff.1 (Nat.lt_of_mul_lt_mul_left (a := 2 * den) ?_)
  calc 2 * den * roundHalfUp num den ≤ 2 * num + den := low
    _ < 2 * (den * m) + 2 * den := by omega
    _ = 2 * den * (m + 1) := by ring

theorem roundHalfUp_zero {den : Nat} (h : 0 < den) : roundHalfUp 0 den = 0 :=
  Nat.le_zero.1 (roundHalfUp_le h (Nat.zero_le _))

theorem roundHalfAway_of_nonneg {num : Int} (h : 0 ≤ num) (den : Nat) :
    roundHalfAway num den = roundHalfUp num.natAbs den := if_neg (not_lt.2 h)

theorem roundHalfAway_of_neg {num : Int} (h : num < 0) (den : Nat) :
    roundHalfAway num den = -(roundHalfUp num.natAbs den : Int) := if_pos h

@[simp] theorem roundHalfAway_zero {den : Nat} (h : 0 < den) : roundHalfAway 0 den = 0 := by
  rw [roundHalfAway_of_nonneg le_rfl, Int.natAbs_zero, roundHalfUp_zero h, Nat.cast_zero]

/-- A quotient to the nearest whole number lies within half of it; at an exact half it lies away from zero (R98). -/
theorem roundHalfAway_nearest (num : Int) {den : Nat} (h : 0 < den) :
    let rest := 2 * (num - roundHalfAway num den * den)
    rest ≤ den ∧ -(den : Int) ≤ rest ∧ (rest = den → num < 0) ∧ (rest = -(den : Int) → 0 < num) := by
  intro rest
  obtain ⟨low, high⟩ := roundHalfUp_nearest num.natAbs den h
  have low' : 2 * ((roundHalfUp num.natAbs den : Int) * den) ≤ 2 * num.natAbs + den := by
    have := Int.ofNat_le.2 low
    push_cast at this ⊢
    linarith
  have high' : 2 * (num.natAbs : Int) < 2 * ((roundHalfUp num.natAbs den : Int) * den) + den := by
    have := Int.ofNat_lt.2 high
    push_cast at this ⊢
    linarith
  obtain negative | rfl | positive := lt_trichotomy num 0
  · have rest_eq : rest = 2 * (num + roundHalfUp num.natAbs den * den) := by
      simp only [rest, roundHalfAway_of_neg negative]
      ring
    omega
  · have rest_eq : rest = 0 := by simp only [rest, roundHalfAway_zero h]; ring
    omega
  · have rest_eq : rest = 2 * (num - roundHalfUp num.natAbs den * den) := by
      simp only [rest, roundHalfAway_of_nonneg positive.le]
    omega

/-- The part of a whole difference in proportion to a figure of 0 to the divisor lies between 0 and the difference. -/
theorem roundHalfAway_part {a : Int} {den : Nat} (h : 0 < den) (ha : 0 ≤ a) (hd : a ≤ den) (y : Int) :
    min 0 y ≤ roundHalfAway (a * y) den ∧ roundHalfAway (a * y) den ≤ max 0 y := by
  have bound : roundHalfUp (a * y).natAbs den ≤ y.natAbs := by
    refine roundHalfUp_le h ?_
    rw [Int.natAbs_mul]
    exact Nat.mul_le_mul_right _ (by omega)
  obtain hy | hy := lt_or_ge y 0
  · obtain negative | nonneg := lt_or_ge (a * y) 0
    · rw [roundHalfAway_of_neg negative]
      omega
    · have zero : a * y = 0 := le_antisymm (mul_nonpos_of_nonneg_of_nonpos ha hy.le) nonneg
      rw [zero, roundHalfAway_zero h]
      omega
  · rw [roundHalfAway_of_nonneg (mul_nonneg ha hy)]
    omega

/-! ### The lookup -/

theorem increasing_iff (t : Table) : increasing t = true ↔ t.Pairwise (fun p q => p.x < q.x) := by
  have chain : increasing t = true ↔ t.IsChain (fun p q => p.x < q.x) := by
    induction t with
    | nil => simp [increasing]
    | cons p t ih => cases t with
      | nil => simp [increasing]
      | cons q t => simp [increasing, ih]
  exact chain.trans List.isChain_iff_pairwise

/-- A lookup passes over the points below one that is not above the input. -/
theorem lookupFrom_skip {a p : Point} {before rest : Table} {u : Nat}
    (sorted : (a :: before ++ p :: rest).Pairwise (fun p q => p.x < q.x)) (h : p.x ≤ u) :
    lookupFrom u a (before ++ p :: rest) = lookupFrom u p rest := by
  induction before generalizing a with
  | nil => exact if_neg (not_lt.2 h)
  | cons b before ih =>
    obtain ⟨-, sorted'⟩ := List.pairwise_cons.1 sorted
    have below : b.x < p.x := (List.pairwise_cons.1 sorted').1 p (by simp)
    exact (if_neg (by omega)).trans (ih sorted')

/-- The lookup from a point at or below the input on (R98). -/
theorem lookup_from {p : Point} {before rest : Table} {u : Nat} (sorted : increasing (before ++ p :: rest) = true)
    (h : p.x ≤ u) : lookup (before ++ p :: rest) u = lookupFrom u p rest := by
  rw [increasing_iff] at sorted
  cases before with
  | nil => exact if_neg (not_lt.2 h)
  | cons a before =>
    have below : a.x < p.x := (List.pairwise_cons.1 sorted).1 p (by simp)
    exact (if_neg (by omega)).trans (lookupFrom_skip sorted h)

/-- The proportional part of a segment's rise that an input has covered, rounded (R98). -/
def segmentPart (p q : Point) (u : Nat) : Int :=
  roundHalfAway (((u : Int) - p.x) * ((q.y : Int) - p.y)) (q.x - p.x)

theorem interpolate_eq (p q : Point) (u : Nat) : interpolate p q u = ((p.y : Int) + segmentPart p q u).toNat := rfl

/-- Inside a segment the result lies between the two points' y (R98). -/
theorem segmentPart_between {p q : Point} {u : Nat} (hp : p.x ≤ u) (hq : u < q.x) :
    (min p.y q.y : Int) ≤ p.y + segmentPart p q u ∧ (p.y : Int) + segmentPart p q u ≤ (max p.y q.y : Int) := by
  obtain ⟨low, high⟩ := roundHalfAway_part (a := (u : Int) - p.x) (den := q.x - p.x) (by omega) (by omega) (by omega)
    ((q.y : Int) - p.y)
  change min 0 ((q.y : Int) - p.y) ≤ segmentPart p q u at low
  change segmentPart p q u ≤ max 0 ((q.y : Int) - p.y) at high
  omega

theorem segmentPart_self {p q : Point} (h : p.x < q.x) : segmentPart p q p.x = 0 := by
  simp [segmentPart, h]

/-! ### The damping -/

/-- Short of its target from below, a position moves up by the truncated step, and by at least 1 (R102). -/
theorem damped_up (filtered k : Nat) {m : Nat} (h : 0 < m) :
    damped filtered (filtered + m) k = filtered + max 1 (m * k / 256) := by
  have step : (((filtered + m : Nat) : Int) - filtered) * k = (m * k : Nat) := by push_cast; ring
  have cut : ((m * k : Nat) : Int).tdiv 256 = (m * k / 256 : Nat) := rfl
  have sign : (((filtered + m : Nat) : Int) - filtered).sign = 1 := Int.sign_eq_one_of_pos (by omega)
  simp only [damped, step, cut, sign]
  split <;> omega

/-- Short of its target from above, a position moves down by the truncated step, and by at least 1 (R102). -/
theorem damped_down (target k : Nat) {m : Nat} (h : 0 < m) :
    damped (target + m) target k = target + m - max 1 (m * k / 256) := by
  have step : ((target : Int) - (target + m : Nat)) * k = -(m * k : Nat) := by push_cast; ring
  have cut : (-((m * k : Nat) : Int)).tdiv 256 = -(m * k / 256 : Nat) := Int.neg_tdiv _ _
  have sign : ((target : Int) - (target + m : Nat)).sign = -1 := Int.sign_eq_neg_one_of_neg (by omega)
  simp only [damped, step, cut, sign]
  split <;> omega

theorem damped_self (target k : Nat) : damped target target k = target := by
  simp [damped]

/-- With a k of at most 256 a step never passes the target. -/
theorem dampingStep_le {m k : Nat} (h : 0 < m) (hk : k ≤ 256) : max 1 (m * k / 256) ≤ m := by
  have : m * k ≤ m * 256 := Nat.mul_le_mul_left m hk
  omega

/-- The damping ends between the position and the target. -/
theorem damped_le {filtered target k m : Nat} (hk : k ≤ 256) (hf : filtered ≤ m) (ht : target ≤ m) :
    damped filtered target k ≤ m := by
  obtain below | rfl | above := lt_trichotomy filtered target
  · obtain ⟨d, rfl⟩ := Nat.exists_eq_add_of_le below.le
    have := dampingStep_le (m := d) (by omega) hk
    rw [damped_up _ _ (by omega)]
    omega
  · rwa [damped_self]
  · obtain ⟨d, rfl⟩ := Nat.exists_eq_add_of_le above.le
    rw [damped_down _ _ (by omega)]
    omega

/-! ### The law -/

theorem compensated_of_low (law : Law) (required : Nat) {supply : Nat} (h : supply < 3000) :
    compensated law required (some supply) = (0, false) := if_pos h

theorem compensated_of_mean (law : Law) (required : Nat) {supply : Nat} (h : 3000 ≤ supply) :
    compensated law required (some supply)
      = (min 1000 (rawDuty law required supply), decide (1000 < rawDuty law required supply)) :=
  if_neg (not_lt.2 h)

theorem compensated_duty_le (law : Law) (required : Nat) (mean : Option Nat) :
    (compensated law required mean).1 ≤ 1000 := by
  unfold compensated
  repeat' split
  · exact Nat.zero_le _
  · exact Nat.zero_le _
  · exact Nat.min_le_left _ _

end Sys2Proof.Machine

open Sys2Proof Sys2Proof.Machine

/-- Settles O38: a lookup passes over the points below its segment, and the segment's proportional part is rounded to
the nearest. -/
theorem lookupRunsThroughTheTable : Obligations.LookupRunsThroughTheTable := by
  unfold Obligations.LookupRunsThroughTheTable
  refine ⟨fun p rest u h => if_pos h, fun before p u sorted h => lookup_from sorted h,
    fun before after p q u sorted hp hq => ?_⟩
  have width : ((q.x - p.x : Nat) : Int) = (q.x : Int) - p.x := Int.ofNat_sub (by omega)
  obtain ⟨low, high⟩ := segmentPart_between hp hq
  refine ⟨segmentPart p q u, ?_, low, high, ?_, ?_⟩
  · exact (lookup_from sorted hp).trans (if_pos hq)
  · rintro rfl
    exact segmentPart_self hq
  · have near := roundHalfAway_nearest (((u : Int) - p.x) * ((q.y : Int) - p.y)) (Nat.sub_pos_of_lt (hp.trans_lt hq))
    rw [width] at near
    exact near

/-- Settles O39: a position short of its target lies a positive distance from it, and the step never exceeds that. -/
theorem dampingApproachesTheTarget : Obligations.DampingApproachesTheTarget := by
  unfold Obligations.DampingApproachesTheTarget
  intro filtered target k _ hk
  obtain below | rfl | above := lt_trichotomy filtered target
  · obtain ⟨d, rfl⟩ := Nat.exists_eq_add_of_lt below
    have step := dampingStep_le (m := d + 1) (by omega) hk
    rw [Nat.add_assoc, damped_up _ _ (by omega), Nat.add_sub_cancel_left]
    refine ⟨by omega, fun _ => ⟨rfl, by omega⟩, by omega, ?_⟩
    rintro rfl
    omega
  · simp [damped_self]
  · obtain ⟨d, rfl⟩ := Nat.exists_eq_add_of_lt above
    have step := dampingStep_le (m := d + 1) (by omega) hk
    rw [Nat.add_assoc, damped_down _ _ (by omega), Nat.add_sub_cancel_left]
    refine ⟨by omega, by omega, fun _ => ⟨rfl, by omega⟩, ?_⟩
    rintro rfl
    omega

/-- Settles O40: the duty before saturation is the law's quotient, rounded with an exact half up. -/
theorem compensationFollowsTheLaw : Obligations.CompensationFollowsTheLaw := by
  unfold Obligations.CompensationFollowsTheLaw
  refine fun law required => ⟨rfl, fun supply => ⟨compensated_of_low law required, fun h =>
    ⟨rawDuty law required supply, ?_, compensated_of_mean law required h⟩⟩⟩
  have pos : 0 < supply := by omega
  cases law with
  | magnetic => exact roundHalfUp_nearest _ _ pos
  | thermal =>
    simp only [rawDuty, sq]
    exact roundHalfUp_nearest _ _ (Nat.mul_pos pos pos)

end

section
/-! SUPPORT. The update of a gauge and the commands of its driver, each as one change of the state (R96, R99 to R101, R107,
R108, R110 to R112). -/

namespace Sys2Proof.Machine

/-! ### The update -/

theorem State.setGauge_setGauge (s : State) (g : Fin 4) (x y : Gauge) :
    (s.setGauge g x).setGauge g y = s.setGauge g y := by
  simp [State.setGauge, Vector.set_set]

/-- A gauge's record at the end of its update, whose period starts again (R96), and GAUGE_SAT where SAT has become set
(R107). -/
def State.gaugePut (s : State) (g : Fin 4) (y : Gauge) (becameSat : Bool) : State :=
  { s with
    gauges := s.gauges.set g { y with sinceUpdate := 0 }
    events := if becameSat = true then s.events.set Event.gaugeSat.idx ⟨true, g.val⟩ else s.events }

theorem State.gaugePut_quiet (s : State) (g : Fin 4) (y : Gauge) :
    s.gaugePut g y false = s.setGauge g { y with sinceUpdate := 0 } := rfl

/-- Every update ends with its gauge's period starting again. -/
theorem exec_gaugeUpdate {s : State} (hp : s.powered = true) (g : Fin 4) : exec (.gaugeUpdate g) s
    = .next ((s.updateGauge g).setGauge g { (s.updateGauge g).gauge g with sinceUpdate := 0 }) := by
  simp only [exec, execGaugeUpdate, State.whenPowered_on _ _ hp]

theorem exec_gaugeUpdate_frozen {s : State} (hp : s.powered = true) (g : Fin 4) (crank : s.supply.state = .crank) :
    exec (.gaugeUpdate g) s = .next (s.gaugePut g (s.gauge g) false) := by
  have frozen : s.updateGauge g = s := if_pos crank
  rw [exec_gaugeUpdate hp, frozen, State.gaugePut_quiet]

theorem exec_gaugeUpdate_unsampled {s : State} (hp : s.powered = true) {g : Fin 4}
    (crank : s.supply.state ≠ .crank) (h : s.gaugeInput g = none) :
    exec (.gaugeUpdate g) s = .next (s.gaugePut g { s.gauge g with duty := 0 } false) := by
  have rests : s.updateGauge g = s.setGauge g { s.gauge g with duty := 0 } := by
    simp only [State.updateGauge, if_neg crank, h]
  rw [exec_gaugeUpdate hp, rests, State.setGauge_gauge, State.setGauge_setGauge, State.gaugePut_quiet]

/-- With a target the stages run, and GAUGE_SAT is set where they set SAT anew. -/
theorem exec_gaugeUpdate_stages {s : State} (hp : s.powered = true) {g : Fin 4} (crank : s.supply.state ≠ .crank)
    {target : Nat} {fault : Bool} {found : Found} (h : s.gaugeInput g = some (target, fault, found)) :
    let after := s.gaugeUpdated g target fault found
    exec (.gaugeUpdate g) s = .next (s.gaugePut g after (after.sat && !(s.gauge g).sat)) := by
  intro after
  have runs : s.updateGauge g = if after.sat && !(s.gauge g).sat
      then (s.setGauge g after).raise .gaugeSat g.val else s.setGauge g after := by
    simp only [State.updateGauge, if_neg crank, h]
    rfl
  rw [exec_gaugeUpdate hp, runs]
  cases after.sat && !(s.gauge g).sat with
  | false =>
    rw [if_neg Bool.false_ne_true, State.setGauge_gauge, State.setGauge_setGauge, State.gaugePut_quiet]
  | true =>
    have raised : ((s.setGauge g after).raise .gaugeSat g.val).gauge g = after := s.setGauge_gauge g after
    rw [if_pos rfl, raised]
    exact congrArg (fun u => Host.Outcome.next (State.raise u .gaugeSat g.val)) (s.setGauge_setGauge g after _)

/-- The record after the stages, with SUM's flags one after the other (R108). -/
theorem State.gaugeUpdated_eq (s : State) (g : Fin 4) (target : Nat) (fault : Bool) (found : Found) :
    let x := s.gauge g
    let filtered := damped x.filtered target (s.gaugeConfig g).k
    let gaugeFound := lookup (s.gaugeTable g) filtered
    let drive := compensated (s.gaugeConfig g).law gaugeFound.value s.supply.batMean
    s.gaugeUpdated g target fault found = { x with
      target := target, filtered := filtered, required := gaugeFound.value, duty := drive.1
      low := found.low || gaugeFound.low, high := found.high || gaugeFound.high, sat := drive.2, fault := fault
      sum := x.sum || found.low || gaugeFound.low || found.high || gaugeFound.high || drive.2 || fault } := by
  simp only [State.gaugeUpdated, Bool.or_assoc]

/-! ### Stages 1 and 2 -/

variable {s : State} {g : Fin 4}

theorem State.gaugeInput_free (h : (s.gaugeConfig g).binding = none) :
    s.gaugeInput g = some ((s.gauge g).linkPosition, false, ⟨(s.gauge g).linkPosition, false, false⟩) := by
  simp only [State.gaugeInput, h]

theorem State.gaugeInput_unsampled {n : Fin 4} (h : (s.gaugeConfig g).binding = some n)
    (unsampled : (s.sender n).latest = none) : s.gaugeInput g = none := by
  simp only [State.gaugeInput, h, unsampled]

theorem State.gaugeInput_sampled {n : Fin 4} {r : Nat} (h : (s.gaugeConfig g).binding = some n)
    (sampled : (s.sender n).latest = some r) (ok : (s.sender n).state = .ok) :
    s.gaugeInput g = some ((lookup (s.senderTable g) r).value, false, lookup (s.senderTable g) r) := by
  simp only [State.gaugeInput, h, sampled, if_pos ok]

/-- The target a gauge's fault policy gives (R100). -/
def State.policyTarget (s : State) (g : Fin 4) : Nat :=
  match (s.gaugeConfig g).policy with
  | .hold => (s.gauge g).target
  | .rest => 0
  | .full => 1000

theorem State.gaugeInput_faulty {n : Fin 4} {r : Nat} (h : (s.gaugeConfig g).binding = some n)
    (sampled : (s.sender n).latest = some r) (faulty : (s.sender n).state ≠ .ok) :
    s.gaugeInput g = some (s.policyTarget g, true, ⟨s.policyTarget g, false, false⟩) := by
  simp only [State.gaugeInput, h, sampled, if_neg faulty]
  rfl

/-! ### The driver -/

theorem exec_driverSample (hp : s.powered = true) (milliamps : Nat) :
    exec (.driverSample g milliamps) s = .next (s.sampleDriver g milliamps) := by
  simp only [exec, execDriverSample, State.whenPowered_on _ _ hp]

theorem State.sampleDriver_idle (milliamps : Nat) (h : (s.gauge g).driver = .waiting ∨ (s.gauge g).duty = 0) :
    s.sampleDriver g milliamps = s := if_pos h

theorem State.sampleDriver_pulsed (milliamps : Nat) (driving : (s.gauge g).driver = .driving)
    (duty : 0 < (s.gauge g).duty) : s.sampleDriver g milliamps =
      if 750 < currentReading driverTop milliamps then
        (s.setGauge g { s.gauge g with
          driverSample := currentReading driverTop milliamps, driver := .waiting, driverWait := 0
          sum := true }).raise .gaugeFault g.val
      else s.setGauge g { s.gauge g with driverSample := currentReading driverTop milliamps } :=
  if_neg (by simp [driving, duty.ne'])

theorem exec_driverWaitEnd (hp : s.powered = true) : exec (.driverWaitEnd g) s
    = .next (if (s.gauge g).driver = .waiting
      then s.setGauge g { s.gauge g with driver := .driving, driverWait := 0 } else s) := by
  simp only [exec, execDriverWaitEnd, State.whenPowered_on _ _ hp]

end Sys2Proof.Machine

open Sys2Proof Sys2Proof.Machine

/-- Settles O41: the update is frozen, rests, or runs its stages from the target that stages 1 and 2 find. -/
theorem gaugeUpdateRunsItsStages : Obligations.GaugeUpdateRunsItsStages := by
  unfold Obligations.GaugeUpdateRunsItsStages
  intro s g hp x k put stages
  have runs : ∀ {target : Nat} {fault : Bool} {found : Found}, s.supply.state ≠ .crank →
      s.gaugeInput g = some (target, fault, found) →
      exec (.gaugeUpdate g) s = .next (stages target fault found.low found.high) := by
    intro target fault found crank h
    rw [exec_gaugeUpdate_stages hp crank h, State.gaugeUpdated_eq]
    rfl
  refine ⟨exec_gaugeUpdate_frozen hp g, fun crank => ⟨fun free => ?_, fun n bound => ⟨fun unsampled => ?_,
    fun r sampled ok => ?_, fun r sampled faulty => ?_⟩⟩⟩
  · exact runs crank (State.gaugeInput_free free)
  · exact exec_gaugeUpdate_unsampled hp crank (State.gaugeInput_unsampled bound unsampled)
  · exact runs crank (State.gaugeInput_sampled bound sampled ok)
  · exact runs crank (State.gaugeInput_faulty bound sampled faulty)

/-- Settles O42: inside an on-pulse the reading is kept or trips the driver, and the end of a wait is a WAITING driver's
alone. -/
theorem driverTripsAndWaits : Obligations.DriverTripsAndWaits := by
  unfold Obligations.DriverTripsAndWaits
  intro s g milliamps hp x reading
  refine ⟨fun idle => ?_, fun driving duty low => ?_, fun driving duty high => ?_, fun waiting => ?_,
    fun driving => ?_⟩
  · rw [exec_driverSample hp, State.sampleDriver_idle milliamps idle]
  · rw [exec_driverSample hp, State.sampleDriver_pulsed milliamps driving duty]
    exact congrArg _ (if_neg (not_lt.2 low))
  · rw [exec_driverSample hp, State.sampleDriver_pulsed milliamps driving duty]
    exact congrArg _ (if_pos high)
  · exact (exec_driverWaitEnd hp).trans (congrArg _ (if_pos waiting))
  · have still : (s.gauge g).driver ≠ .waiting := by
      rw [show (s.gauge g).driver = .driving from driving]
      nofun
    exact (exec_driverWaitEnd hp).trans (congrArg _ (if_neg still))

end

section
/-! SUPPORT. Tables, pages, staging and gauges along every step: which operations leave them alone, and what each of the few
that write them puts there (R95, R97, R151, R153 to R157, R159, R165). -/

namespace Sys2Proof.Machine

/-! ### The three invariants, part by part -/

theorem tableFits_iff (page : Fin 8) (points : Table) : tableFits page points = true ↔
    2 ≤ points.length ∧ points.length ≤ 16 ∧ increasing points = true ∧ ∀ p ∈ points, p.fits page = true := by
  simp [tableFits, and_assoc]

theorem Staging.fits_iff (b : Staging) : b.fits = true ↔
    b.pointer ≤ 16 ∧ b.length ≤ 16 ∧ ∀ p ∈ b.slots, p.fits b.table = true := by
  simp only [Staging.fits, Bool.and_eq_true, decide_eq_true_eq, List.all_eq_true, Vector.mem_toList_iff, and_assoc]

/-- A gauge's results lie within their ranges (R95). -/
def Gauge.InRange (x : Gauge) : Prop :=
  x.linkPosition ≤ 1000 ∧ x.target ≤ 1000 ∧ x.filtered ≤ 1000 ∧ x.required ≤ 16000 ∧ x.duty ≤ 1000

/-- The damping constants that an image being written carries are 1 to 256; a table's image has none. -/
def Image.dampingsFit : Image → Bool
  | .settings x => x.dampingsFit
  | .table _ _ => true

/-- The page an image is for has no valid mark (R151). -/
def Image.Unmarked (st : Store) : Image → Prop
  | .table page _ => st.tablePages[page] = none
  | .settings _ => st.settingsPage = none

theorem State.tablesFit_iff (s : State) : s.TablesFit ↔
    (∀ p : Fin 8, tableFits p s.tables[p] = true ∧ ∀ x, s.store.tablePages[p] = some x → tableFits p x = true)
    ∧ (∀ p, s.store.programming = some p → p.image.fits = true)
    ∧ ∀ b, s.store.staging = some b → b.fits = true := by
  simp only [State.TablesFit, Option.all_eq_true]

theorem State.gaugesInRange_iff (s : State) : s.GaugesInRange ↔
    (∀ g, (s.gauge g).InRange) ∧ s.settings.dampingsFit = true
    ∧ (∀ x, s.store.settingsPage = some x → x.dampingsFit = true)
    ∧ ∀ p, s.store.programming = some p → p.image.dampingsFit = true := by
  have named : s.GaugesInRange ↔ (∀ g, (s.gauge g).InRange) ∧ s.settings.dampingsFit = true
      ∧ s.store.settingsPage.all Settings.dampingsFit = true
      ∧ s.store.programming.all (fun p => p.image.dampingsFit) = true := Iff.rfl
  simp only [named, Option.all_eq_true]

theorem State.flightUnmarked_iff (s : State) : s.FlightUnmarked ↔
    (∀ p, s.store.programming = some p → p.image.Unmarked s.store)
    ∧ (s.restarting = true → s.store.programming = none) := Iff.rfl

theorem Settings.dampingsFit_iff (x : Settings) :
    x.dampingsFit = true ↔ ∀ k ∈ x.gauges, 1 ≤ k.k ∧ k.k ≤ 256 := by
  simp only [Settings.dampingsFit, List.all_eq_true, Vector.mem_toList_iff, Bool.and_eq_true, decide_eq_true_eq]

/-- A step from one state to another keeps the three invariants; the gauges' needs the tables'. -/
structure State.KeepsStored (s t : State) : Prop where
  tables : s.TablesFit → t.TablesFit
  gauges : s.TablesFit → s.GaugesInRange → t.GaugesInRange
  flight : s.FlightUnmarked → t.FlightUnmarked

theorem State.KeepsStored.refl (s : State) : s.KeepsStored s := ⟨id, fun _ => id, id⟩

theorem State.KeepsStored.trans {s t u : State} (h : s.KeepsStored t) (k : t.KeepsStored u) : s.KeepsStored u :=
  ⟨k.tables ∘ h.tables, fun ht hg => k.gauges (h.tables ht) (h.gauges ht hg), k.flight ∘ h.flight⟩

/-! ### Operations that leave all of it alone -/

/-- The pages are as they were, and what is staged or being programmed was so already. -/
structure Store.Leaves (st st' : Store) : Prop where
  tablePages : st'.tablePages = st.tablePages
  settingsPage : st'.settingsPage = st.settingsPage
  staging : ∀ b, st'.staging = some b → st.staging = some b
  flight : ∀ p', st'.programming = some p' → ∃ p, st.programming = some p ∧ p.image = p'.image

@[simp] theorem Store.Leaves.refl (st : Store) : st.Leaves st := ⟨rfl, rfl, fun _ => id, fun p h => ⟨p, h, rfl⟩⟩

theorem Store.Leaves.trans {st st' st'' : Store} (h : st.Leaves st') (k : st'.Leaves st'') : st.Leaves st'' where
  tablePages := k.tablePages.trans h.tablePages
  settingsPage := k.settingsPage.trans h.settingsPage
  staging b := h.staging b ∘ k.staging b
  flight p'' h'' := by
    obtain ⟨p', h', image'⟩ := k.flight p'' h''
    obtain ⟨p, hp, image⟩ := h.flight p' h'
    exact ⟨p, hp, image.trans image'⟩

/-- What the three invariants read is as it was, but for gauges that stay in range and for what leaves the store. -/
structure State.LeavesStored (s t : State) : Prop where
  tables : t.tables = s.tables := by simp
  dampings : t.settings.gauges = s.settings.gauges := by simp
  restarting : t.restarting = s.restarting := by simp
  gauges : ∀ g, (s.gauge g).InRange → (t.gauge g).InRange := by simp [State.gauge]
  store : s.store.Leaves t.store := by simp

theorem State.LeavesStored.refl (s : State) : s.LeavesStored s := {}

theorem State.LeavesStored.trans {s t u : State} (h : s.LeavesStored t) (k : t.LeavesStored u) : s.LeavesStored u :=
  ⟨k.tables.trans h.tables, k.dampings.trans h.dampings, k.restarting.trans h.restarting,
    fun g => k.gauges g ∘ h.gauges g, h.store.trans k.store⟩

theorem State.LeavesStored.keeps {s t : State} (h : s.LeavesStored t) : s.KeepsStored t where
  tables ht := by
    obtain ⟨pages, flight, staged⟩ := s.tablesFit_iff.1 ht
    refine t.tablesFit_iff.2 ⟨?_, fun p' hp' => ?_, fun b hb => staged b (h.store.staging b hb)⟩
    · rwa [h.tables, h.store.tablePages]
    · obtain ⟨p, hp, image⟩ := h.store.flight p' hp'
      exact image ▸ flight p hp
  gauges _ hg := by
    obtain ⟨results, dampings, page, flight⟩ := s.gaugesInRange_iff.1 hg
    refine t.gaugesInRange_iff.2 ⟨fun g => h.gauges g (results g), ?_, ?_, fun p' hp' => ?_⟩
    · rwa [Settings.dampingsFit, h.dampings]
    · rwa [h.store.settingsPage]
    · obtain ⟨p, hp, image⟩ := h.store.flight p' hp'
      exact image ▸ flight p hp
  flight hf := by
    obtain ⟨unmarked, idle⟩ := s.flightUnmarked_iff.1 hf
    refine t.flightUnmarked_iff.2 ⟨fun p' hp' => ?_, fun restarts => ?_⟩
    · obtain ⟨p, hp, image⟩ := h.store.flight p' hp'
      have free := unmarked p hp
      rw [image] at free
      cases hi : p'.image with
      | table page points =>
        rw [hi] at free
        rwa [Image.Unmarked, h.store.tablePages]
      | settings x =>
        rw [hi] at free
        rwa [Image.Unmarked, h.store.settingsPage]
    · refine Option.eq_none_iff_forall_ne_some.2 fun p' hp' => ?_
      obtain ⟨p, hp, -⟩ := h.store.flight p' hp'
      rw [idle (h.restarting ▸ restarts)] at hp
      cases hp

/-- A programming that fails leaves its page without its mark, and nothing in flight (R156). -/
theorem State.failProgramming_leaves (s : State) (image : Image) (cause : FailureCause) :
    s.LeavesStored (s.failProgramming image cause) where
  store := ⟨rfl, rfl, fun _ => id, nofun⟩

theorem State.storeFollow_leaves (s : State) : s.LeavesStored s.storeFollow := by
  unfold State.storeFollow
  repeat' split
  · exact .refl s
  · exact s.failProgramming_leaves _ _
  · exact .refl s

theorem State.react_leaves (s : State) : s.LeavesStored s.react where
  store := by
    rw [State.react_store]
    simpa using (State.storeFollow_leaves s.flasherFollow.chargeFollow).store

theorem State.reactFrom_leaves (s before : State) : s.LeavesStored (s.reactFrom before) := by
  have demanded : s.LeavesStored (s.fanOnDemand before) := {}
  exact demanded.trans (State.react_leaves _)

theorem State.raise_leaves (s : State) (e : Event) (detail : Nat) : s.LeavesStored (s.raise e detail) := {}

theorem State.setInput_leaves (s : State) (i : Fin 12) (x : Input) : s.LeavesStored (s.setInput i x) := {}

theorem State.setChannel_leaves (s : State) (c : Fin 16) (x : Channel) : s.LeavesStored (s.setChannel c x) := {}

/-- A gauge's record replaced by one in range where it was. -/
theorem State.setGauge_leaves (s : State) (g : Fin 4) {x : Gauge} (h : (s.gauge g).InRange → x.InRange) :
    s.LeavesStored (s.setGauge g x) where
  gauges k hk := by
    by_cases hg : g = k
    · subst hg
      rw [State.setGauge_gauge]
      exact h hk
    · rwa [State.setGauge_gauge_of_ne _ _ hg]

theorem State.withLink_leaves (s : State) (link : Link) : s.LeavesStored { s with link := link } := {}

/-! ### The demand table -/

theorem State.writeFn_leaves (s : State) (f : Fn) (r : FnRecord) : s.LeavesStored (s.writeFn f r) := by
  have put : s.LeavesStored ((s.clearReservation f).setFn f r) := {}
  exact put.trans (State.reactFrom_leaves _ s)

theorem State.switchTo_leaves (s : State) (f : Fn) (value : Nat) : s.LeavesStored (s.switchTo f value) := by
  obtain ⟨-, h⟩ | ⟨-, -, -, h⟩ | ⟨-, -, h⟩ := s.switchTo_cases f value <;> rw [h]
  · exact .refl s
  · exact {}
  · exact s.writeFn_leaves _ _

theorem State.raiseIfChanged_leaves (s before : State) (f : Fn) : s.LeavesStored (s.raiseIfChanged before f) := {}

theorem State.switchByEdge_leaves (s : State) (f : Fn) (value : Nat) : s.LeavesStored (s.switchByEdge f value) :=
  (s.switchTo_leaves f value).trans (State.raiseIfChanged_leaves _ _ _)

theorem State.debounceTo_leaves (s : State) (i : Fin 12) (value : Debounced) :
    s.LeavesStored (s.debounceTo i value) := by
  have put := s.setInput_leaves i { s.input i with debounced := value }
  obtain ⟨-, h⟩ | ⟨-, -, h⟩ | ⟨f, -, -, -, h⟩ | ⟨f, -, -, -, -, h⟩ := s.debounceTo_cases i value <;> rw [h]
  · exact .refl s
  · exact put
  · exact put.trans (State.switchByEdge_leaves _ _ _)
  · exact put.trans (State.switchByEdge_leaves _ _ _)

theorem State.findFor_leaves (s : State) (f : Option Fn) (value : Fn → Nat) : s.LeavesStored (s.findFor f value) := by
  cases f with
  | none => exact .refl s
  | some f => exact s.switchTo_leaves f _

/-- SET_INPUT's steps are findings of switch values after the binding's replacement, and the settling (R7). -/
theorem State.bindInput_leaves (s : State) (i : Fin 12) (b : Binding) : s.LeavesStored (s.bindInput i b) := by
  have settled : ∀ u : State, u.LeavesStored (u.settleIfDue i) := fun u => by
    unfold State.settleIfDue
    split
    · exact u.debounceTo_leaves _ _
    · exact .refl u
  have replaced : s.LeavesStored (s.replaceBinding i b) := by
    rw [State.replaceBinding_eq]
    exact {}
  unfold State.bindInput
  rw [State.leaveFunction_eq, State.joinFunction_eq, State.restUnbound_eq]
  exact ((((replaced.trans (State.findFor_leaves _ _ _)).trans (State.findFor_leaves _ _ _)).trans
    (State.findFor_leaves _ _ _)).trans (State.findFor_leaves _ _ _)).trans (settled _)

theorem State.cancelSide_leaves (s : State) (side : Side) : s.LeavesStored (s.cancelSide side) :=
  ((s.writeFn_leaves _ _).trans (State.raiseIfChanged_leaves _ _ _)).trans (State.raise_leaves _ _ _)

theorem State.expireIfDue_leaves (s : State) (side : Side) : s.LeavesStored (s.expireIfDue side) := by
  unfold State.expireIfDue
  repeat' split
  · exact s.cancelSide_leaves side
  · exact .refl s
  · exact .refl s

theorem State.raiseDemandChanges_leaves (s before : State) : s.LeavesStored (s.raiseDemandChanges before) := {}

/-- LIMP entry closes the staging buffer and takes every link position to 0 (R113, R153). -/
theorem State.enterLimp_leaves (s : State) : s.LeavesStored s.enterLimp := by
  have entered : s.LeavesStored s.limpEntered := {
    tables := rfl
    dampings := rfl
    restarting := rfl
    gauges := fun g hg => by
      have record : s.limpEntered.gauge g = { s.gauge g with linkPosition := 0 } := vecOfFn_getElem_fin _ g
      rw [record]
      exact ⟨Nat.zero_le _, hg.2⟩
    store := ⟨rfl, rfl, nofun, fun p h => ⟨p, h, rfl⟩⟩ }
  exact (entered.trans (State.raiseDemandChanges_leaves _ s)).trans (State.reactFrom_leaves _ s)

theorem State.exitLimp_leaves (s : State) : s.LeavesStored s.exitLimp := by
  have left : s.LeavesStored s.limpLeft := by
    unfold State.limpLeft
    exact {}
  exact (left.trans (State.raiseDemandChanges_leaves _ s)).trans (State.reactFrom_leaves _ s)

/-! ### The other blocks' settings -/

theorem State.changeFlasher_leaves (s : State) (rate limit : Nat) : s.LeavesStored (s.changeFlasher rate limit) := by
  have set : s.LeavesStored { s with settings := { s.settings with flashRate := rate, runOnLimit := limit } } := {}
  exact ((set.trans (State.react_leaves _)).trans (State.expireIfDue_leaves _ _)).trans (State.expireIfDue_leaves _ _)

theorem State.changeFan_leaves (s : State) (cfg : FanConfig) : s.LeavesStored (s.changeFan cfg) := by
  have set : s.LeavesStored { s with settings := { s.settings with fan := cfg } } := {}
  have fed : ∀ (u : State) before, u.LeavesStored (u.fanOnFeed before) := fun u before => by
    unfold State.fanOnFeed
    dsimp only
    repeat' split
    all_goals exact {}
  have judged : ∀ u : State, u.LeavesStored u.settleWindowJudged := fun u => by
    unfold State.settleWindowJudged
    repeat' split
    all_goals exact {}
  exact ((set.trans (fed _ _)).trans (judged _)).trans (State.react_leaves _)

end Sys2Proof.Machine
end

section
/-! SUPPORT. The few operations that write tables, pages, staging and gauges, and with them every command and every step
(R95, R97, R151, R153 to R157, R159, R165). -/

namespace Sys2Proof.Machine

/-! ### Gauges -/

/-- Inside a segment the result is at most the greater of the two points' y. -/
theorem interpolate_le {p q : Point} {u m : Nat} (hp : p.x ≤ u) (hq : u < q.x) (py : p.y ≤ m) (qy : q.y ≤ m) :
    interpolate p q u ≤ m := by
  obtain ⟨-, high⟩ := segmentPart_between hp hq
  rw [interpolate_eq]
  omega

theorem lookupFrom_value_le {t : Table} {p : Point} {u m : Nat} (hp : p.x ≤ u) (py : p.y ≤ m)
    (h : ∀ q ∈ t, q.y ≤ m) : (lookupFrom u p t).value ≤ m := by
  induction t generalizing p with
  | nil => exact py
  | cons q t ih =>
    obtain ⟨qy, rest⟩ := List.forall_mem_cons.1 h
    unfold lookupFrom
    split
    · exact interpolate_le hp (by assumption) py qy
    · exact ih (not_lt.1 (by assumption)) qy rest

theorem lookup_cons (p : Point) (t : Table) (u : Nat) :
    lookup (p :: t) u = if u < p.x then ⟨p.y, true, false⟩ else lookupFrom u p t := rfl

/-- A lookup's result never exceeds the y of its table (R101, R103). -/
theorem lookup_value_le {t : Table} {m : Nat} (h : ∀ p ∈ t, p.y ≤ m) (u : Nat) : (lookup t u).value ≤ m := by
  cases t with
  | nil => exact Nat.zero_le _
  | cons p t =>
    obtain ⟨py, rest⟩ := List.forall_mem_cons.1 h
    rw [lookup_cons]
    split
    · exact py
    · exact lookupFrom_value_le (not_lt.1 (by assumption)) py rest

theorem Point.fits_senderTable {page : Fin 8} (h : page.val < 4) {p : Point} (hp : p.fits page = true) :
    p.y ≤ 1000 := by
  simp only [Point.fits, if_pos h, Bool.and_eq_true, decide_eq_true_eq] at hp
  exact hp.2

theorem Point.fits_gaugeTable {page : Fin 8} (h : ¬ page.val < 4) {p : Point} (hp : p.fits page = true) :
    p.y ≤ 16000 := by
  simp only [Point.fits, if_neg h, Bool.and_eq_true, decide_eq_true_eq] at hp
  exact hp.2

theorem State.table_points_fit {s : State} (h : s.TablesFit) (page : Fin 8) :
    ∀ p ∈ s.tables[page], p.fits page = true := by
  obtain ⟨tables, -⟩ := s.tablesFit_iff.1 h
  obtain ⟨-, -, -, points⟩ := (tableFits_iff page _).1 (tables page).1
  exact points

theorem State.senderTable_value_le {s : State} (h : s.TablesFit) (g : Fin 4) (u : Nat) :
    (lookup (s.senderTable g) u).value ≤ 1000 := by
  have points := State.table_points_fit h ⟨g.val, by omega⟩
  exact lookup_value_le (fun p hp => Point.fits_senderTable g.isLt (points p hp)) u

theorem State.gaugeTable_value_le {s : State} (h : s.TablesFit) (g : Fin 4) (u : Nat) :
    (lookup (s.gaugeTable g) u).value ≤ 16000 := by
  have points := State.table_points_fit h ⟨g.val + 4, by omega⟩
  exact lookup_value_le (fun p hp => Point.fits_gaugeTable (by simp) (points p hp)) u

theorem State.damping_fits {s : State} (h : s.settings.dampingsFit = true) (g : Fin 4) : (s.gaugeConfig g).k ≤ 256 :=
  ((Settings.dampingsFit_iff _).1 h _ (Vector.getElem_mem _)).2

theorem State.policyTarget_le (s : State) {g : Fin 4} (held : (s.gauge g).target ≤ 1000) : s.policyTarget g ≤ 1000 := by
  unfold State.policyTarget
  split
  · exact held
  · exact Nat.zero_le _
  · exact le_rfl

/-- The target that stages 1 and 2 give is in range, whether from the link, a table or the fault policy (R99 to R101). -/
theorem State.gaugeInput_target_le {s : State} (tables : s.TablesFit) {g : Fin 4} (h : (s.gauge g).InRange)
    {target : Nat} {fault : Bool} {found : Found} (hi : s.gaugeInput g = some (target, fault, found)) :
    target ≤ 1000 := by
  obtain ⟨link, held, -⟩ := h
  have picked : ∀ {target' fault' found'}, s.gaugeInput g = some (target', fault', found') → target' = target :=
    fun h => congrArg Prod.fst (Option.some.inj (h.symm.trans hi))
  cases binding : (s.gaugeConfig g).binding with
  | none => exact picked (State.gaugeInput_free binding) ▸ link
  | some n => cases latest : (s.sender n).latest with
    | none => cases (State.gaugeInput_unsampled binding latest).symm.trans hi
    | some r =>
      by_cases ok : (s.sender n).state = .ok
      · exact picked (State.gaugeInput_sampled binding latest ok) ▸ State.senderTable_value_le tables g r
      · exact picked (State.gaugeInput_faulty binding latest ok) ▸ s.policyTarget_le held

theorem State.gaugeUpdated_inRange {s : State} (tables : s.TablesFit) (range : s.GaugesInRange) (g : Fin 4)
    {target : Nat} (h : target ≤ 1000) (fault : Bool) (found : Found) :
    (s.gaugeUpdated g target fault found).InRange := by
  obtain ⟨results, dampings, -⟩ := s.gaugesInRange_iff.1 range
  obtain ⟨link, -, filtered, -⟩ := results g
  exact ⟨link, h, damped_le (State.damping_fits dampings g) filtered h, State.gaugeTable_value_le tables g _,
    compensated_duty_le _ _ _⟩

/-- A gauge's record is put that is in range where the tables fit and the gauges were in range. -/
theorem State.setGauge_keepsStored (s : State) (g : Fin 4) {x : Gauge}
    (h : s.TablesFit → s.GaugesInRange → x.InRange) : s.KeepsStored (s.setGauge g x) where
  tables := id
  gauges tables range :=
    (s.setGauge_leaves g fun _ => h tables range).keeps.gauges tables range
  flight := id

theorem State.updateGauge_keepsStored (s : State) (g : Fin 4) : s.KeepsStored (s.updateGauge g) := by
  unfold State.updateGauge
  split
  · exact .refl s
  · split
    · refine (s.setGauge_leaves g ?_).keeps
      rintro ⟨link, target, filtered, required, -⟩
      exact ⟨link, target, filtered, required, Nat.zero_le _⟩
    · rename_i target fault found hi
      have put : s.KeepsStored (s.setGauge g (s.gaugeUpdated g target fault found)) :=
        s.setGauge_keepsStored g fun tables range => State.gaugeUpdated_inRange tables range g
          (State.gaugeInput_target_le tables ((s.gaugesInRange_iff.1 range).1 g) hi) fault found
      dsimp only
      split
      · exact put.trans (State.raise_leaves _ _ _).keeps
      · exact put

theorem State.sampleDriver_leaves (s : State) (g : Fin 4) (milliamps : Nat) :
    s.LeavesStored (s.sampleDriver g milliamps) := by
  unfold State.sampleDriver
  dsimp only
  repeat' split
  · exact .refl s
  · refine .trans (s.setGauge_leaves g ?_) (State.raise_leaves _ _ _)
    exact id
  · exact s.setGauge_leaves g id

theorem State.withGaugeConfig_keepsStored (s : State) (g : Fin 4) {cfg : GaugeConfig} (h : 1 ≤ cfg.k ∧ cfg.k ≤ 256) :
    s.KeepsStored { s with settings := { s.settings with gauges := s.settings.gauges.set g cfg } } := by
  refine ⟨id, fun _ range => ?_, id⟩
  obtain ⟨results, dampings, stored⟩ := s.gaugesInRange_iff.1 range
  refine (State.gaugesInRange_iff _).2 ⟨results, (Settings.dampingsFit_iff _).2 fun k hk => ?_, stored⟩
  have put : k ∈ s.settings.gauges.set g cfg := hk
  obtain hk | rfl := Vector.mem_or_eq_of_mem_set put
  · exact (Settings.dampingsFit_iff _).1 dampings k hk
  · exact h

/-- SET_GAUGE clamps its damping constant into range (R95, R114). -/
theorem takeSetGauge_keepsStored (gauge binding law k policy : Nat) (s : State) :
    s.KeepsStored (takeSetGauge gauge binding law k policy s).1 := by
  unfold takeSetGauge
  split
  · exact s.withGaugeConfig_keepsStored _ ⟨by simp only [clamp]; omega, by simp only [clamp]; omega⟩
  · exact .refl s

theorem takeSetGaugePosition_leaves (gauge position : Nat) (s : State) :
    s.LeavesStored (takeSetGaugePosition gauge position s).1 := by
  unfold takeSetGaugePosition
  repeat' split
  · exact .refl s
  · exact .refl s
  · exact s.setGauge_leaves _ fun h => ⟨Nat.min_le_right _ _, h.2⟩

theorem takeReadGauge_leaves (gauge clear : Nat) (s : State) : s.LeavesStored (takeReadGauge gauge clear s).1 := by
  unfold takeReadGauge
  split
  · dsimp only [accept_state]
    split
    · exact s.setGauge_leaves _ id
    · exact .refl s
  · exact .refl s

/-! ### Staging -/

theorem State.withStaging_keepsStored (s : State) {b : Staging} (h : s.TablesFit → b.fits = true) :
    s.KeepsStored (s.withStaging (some b)) where
  tables ht := by
    obtain ⟨tables, flight, -⟩ := s.tablesFit_iff.1 ht
    exact (State.tablesFit_iff _).2 ⟨tables, flight, fun _ hb => Option.some.inj hb ▸ h ht⟩
  gauges _ := id
  flight := id

theorem Point.origin_fits (page : Fin 8) : Point.fits page ⟨0, 0⟩ = true := by
  revert page; decide

/-- The active points of a table fit it, and the slots after them hold the origin (R153). -/
theorem openStaging_fits {page : Fin 8} {points : Table} (h : tableFits page points = true) {start : Nat}
    (hs : start ≤ 15) : (openStaging page points start).fits = true := by
  obtain ⟨-, length, -, fits⟩ := (tableFits_iff page points).1 h
  refine (Staging.fits_iff _).2 ⟨by simp only [openStaging]; omega, length, fun p hp => ?_⟩
  obtain ⟨i, hi, rfl⟩ := Vector.getElem_of_mem hp
  have slot : (openStaging page points start).slots[i] = points.getD i ⟨0, 0⟩ := vecOfFn_getElem _ i hi
  rw [slot, List.getD_eq_getElem?_getD]
  cases hpi : points[i]? with
  | none => exact Point.origin_fits page
  | some q => exact fits q (List.mem_of_getElem? hpi)

/-- The clamps of R154 bring any point into the ranges of its table. -/
theorem clampPoint_fits (page : Fin 8) (x y : Nat) : (clampPoint page x y).fits page = true := by
  unfold clampPoint Point.fits
  split <;> simp

theorem Staging.put_fits {b : Staging} (hb : b.fits = true) {p : Point} (hp : p.fits b.table = true)
    (h : b.pointer < 16) : (b.put p h).fits = true := by
  obtain ⟨-, length, slots⟩ := b.fits_iff.1 hb
  refine (Staging.fits_iff _).2 ⟨h, ?_, fun q hq => ?_⟩
  · simp only [Staging.put]
    omega
  · have put : q ∈ b.slots.set b.pointer p h := hq
    obtain hq | rfl := Vector.mem_or_eq_of_mem_set put
    · exact slots q hq
    · exact hp

theorem takeTableOpen_keepsStored (table start : Nat) (s : State) :
    s.KeepsStored (takeTableOpen table start s).1 := by
  unfold takeTableOpen
  repeat' split
  · exact .refl s
  · exact .refl s
  · exact s.withStaging_keepsStored fun ht =>
      openStaging_fits ((s.tablesFit_iff.1 ht).1 _).1 (not_lt.1 (by assumption))

theorem takeTablePoint_keepsStored (x y : Nat) (s : State) : s.KeepsStored (takeTablePoint x y s).1 := by
  unfold takeTablePoint
  split
  · exact .refl s
  · rename_i b staged
    split
    · exact s.withStaging_keepsStored fun ht =>
        Staging.put_fits ((s.tablesFit_iff.1 ht).2.2 b staged) (clampPoint_fits _ x y) _
    · exact .refl s

/-! ### Programmings -/

/-- A page that holds a table still fits where the mark of an image's page has been cleared. -/
theorem Store.clearMark_tablePages {st : Store} {image : Image} {page : Fin 8} {x : Table}
    (h : (st.clearMark image).tablePages[page] = some x) : st.tablePages[page] = some x := by
  cases image with
  | settings => exact h
  | table p points =>
    by_cases hp : p = page
    · subst hp
      simp [Store.clearMark] at h
    · exact (vector_set_getElem_of_ne st.tablePages p page none hp).symm.trans h

theorem Store.clearMark_settingsPage {st : Store} {image : Image} {x : Settings}
    (h : (st.clearMark image).settingsPage = some x) : st.settingsPage = some x := by
  cases image with
  | settings => cases h
  | table => exact h

theorem Store.clearMark_staging (st : Store) (image : Image) : (st.clearMark image).staging = st.staging := by
  cases image <;> rfl

theorem Store.clearMark_unmarked (st : Store) (image : Image) : image.Unmarked (st.clearMark image) := by
  cases image with
  | settings => rfl
  | table p points => simp [Image.Unmarked, Store.clearMark]

/-- A programming of an image that fits begins in a part that is not to restart: its page loses its mark (R151, R165).
What the image has to fit may be known from before the staging buffer was closed (R155). -/
theorem State.LeavesStored.startProgramming {s t : State} (h : s.LeavesStored t) {image : Image}
    (running : t.restarting = false) (table : s.TablesFit → image.fits = true)
    (settings : s.GaugesInRange → image.dampingsFit = true) : s.KeepsStored (t.startProgramming image) := by
  have begun : s.KeepsStored (t.beginProgramming image) := {
    tables := fun ht => by
      obtain ⟨tables, -, staged⟩ := t.tablesFit_iff.1 (h.keeps.tables ht)
      refine (State.tablesFit_iff _).2 ⟨fun p => ⟨(tables p).1, fun x hx =>
        (tables p).2 x (Store.clearMark_tablePages hx)⟩, fun p hp => ?_, fun b hb => staged b ?_⟩
      · obtain rfl := Option.some.inj hp
        exact table ht
      · exact (t.store.clearMark_staging image).symm.trans hb
    gauges := fun ht range => by
      obtain ⟨results, dampings, page, -⟩ := t.gaugesInRange_iff.1 (h.keeps.gauges ht range)
      refine (State.gaugesInRange_iff _).2 ⟨results, dampings, fun x hx =>
        page x (Store.clearMark_settingsPage hx), fun p hp => ?_⟩
      obtain rfl := Option.some.inj hp
      exact settings range
    flight := fun _ => by
      refine (State.flightUnmarked_iff _).2 ⟨fun p hp => ?_, fun restarts => ?_⟩
      · obtain rfl := Option.some.inj hp
        exact t.store.clearMark_unmarked image
      · exact absurd (running.symm.trans restarts) Bool.false_ne_true }
  exact begun.trans (State.storeFollow_leaves _).keeps

/-- The first points of a fitting buffer may be a page's table where they are 2 to 16 and increase (R155). -/
theorem Staging.first_fits {b : Staging} (hb : b.fits = true) {length : Nat} (two : 2 ≤ length) (most : length ≤ 16)
    (sorted : increasing (b.first length) = true) : tableFits b.table (b.first length) = true := by
  obtain ⟨-, -, slots⟩ := b.fits_iff.1 hb
  have count : (b.first length).length = length := by simp [Staging.first, most]
  refine (tableFits_iff _ _).2 ⟨by omega, by omega, sorted, fun p hp => slots p ?_⟩
  exact Vector.mem_toList_iff.1 (List.mem_of_mem_take hp)

theorem takeTableCommit_keepsStored (length : Nat) {s : State} (running : s.restarting = false) :
    s.KeepsStored (takeTableCommit length s).1 := by
  unfold takeTableCommit
  split
  · exact .refl s
  · rename_i b staged
    repeat' split
    · exact .refl s
    · exact .refl s
    · exact .refl s
    · rename_i range _ sorted
      have closed : s.LeavesStored (s.withStaging none) := { store := ⟨rfl, rfl, nofun, fun p h => ⟨p, h, rfl⟩⟩ }
      refine closed.startProgramming running (fun ht => ?_) fun _ => rfl
      exact Staging.first_fits ((s.tablesFit_iff.1 ht).2.2 b staged) (by omega) (by omega) (by simpa using sorted)

theorem takeSaveSettings_keepsStored {s : State} (running : s.restarting = false) :
    s.KeepsStored (takeSaveSettings s).1 := by
  unfold takeSaveSettings
  split
  · exact .refl s
  · exact (State.LeavesStored.refl s).startProgramming running (fun _ => rfl) fun range =>
      (s.gaugesInRange_iff.1 range).2.1

/-- A RESTART is accepted only while nothing is being programmed (R165). -/
theorem takeRestart_keepsStored (s : State) : s.KeepsStored (takeRestart s).1 := by
  unfold takeRestart
  split
  · exact .refl s
  · rename_i busy
    refine ⟨id, fun _ => id, fun hf => ?_⟩
    obtain ⟨unmarked, -⟩ := s.flightUnmarked_iff.1 hf
    exact (State.flightUnmarked_iff _).2 ⟨unmarked, fun _ => Option.not_isSome_iff_eq_none.1 busy⟩

/-- A programming that succeeds makes its image the page, and a table the active one (R156). -/
theorem State.finishProgramming_keepsStored (s : State) (p : Programming) (hp : s.store.programming = some p) :
    s.KeepsStored (s.finishProgramming p.image) := by
  refine ⟨fun ht => ?_, fun _ range => ?_, fun _ => ⟨nofun, fun _ => rfl⟩⟩
  · obtain ⟨tables, flight, staged⟩ := s.tablesFit_iff.1 ht
    have fits := flight p hp
    cases hi : p.image with
    | settings x => exact (State.tablesFit_iff _).2 ⟨tables, nofun, staged⟩
    | table page points =>
      rw [hi] at fits
      refine (State.tablesFit_iff _).2 ⟨fun q => ?_, nofun, staged⟩
      by_cases hq : page = q
      · subst hq
        simpa [State.finishProgramming, Store.writePage, Image.fits] using fits
      · have active : (s.tables.set page points)[q] = s.tables[q] := vector_set_getElem_of_ne _ _ _ _ hq
        have stored : (s.store.tablePages.set page (some points))[q] = s.store.tablePages[q] :=
          vector_set_getElem_of_ne _ _ _ _ hq
        simpa only [State.finishProgramming, Store.writePage, State.raise_tables, State.raise_store, active, stored]
          using tables q
  · obtain ⟨results, dampings, page, flight⟩ := s.gaugesInRange_iff.1 range
    have fits := flight p hp
    cases hi : p.image with
    | settings x =>
      rw [hi] at fits
      exact (State.gaugesInRange_iff _).2 ⟨results, dampings, fun _ hx => Option.some.inj hx ▸ fits, nofun⟩
    | table q points => exact (State.gaugesInRange_iff _).2 ⟨results, dampings, page, nofun⟩

end Sys2Proof.Machine
end

section
/-! SUPPORT. Every command and every step keeps tables, pages, staging and gauges in order: what writes none of them, and
for the rest the rules of their writes (R95, R97, R151, R153 to R157, R159, R165). -/

namespace Sys2Proof.Machine

/-! ### Taking a request -/

/-- Taking a request in a part that is not to restart keeps the three invariants; but for the requests of the gauges and of
the store, and RESTART, it writes nothing of theirs. -/
theorem takeRequest_keepsStored (i : Instr) (take : State → State × Reply) (h : takeRequest i = some take) {s : State}
    (running : s.restarting = false) : s.KeepsStored (take s).1 := by
  have left : ∀ {t : State}, s.LeavesStored t → s.KeepsStored t := State.LeavesStored.keeps
  have reacts : ∀ {t : State}, s.LeavesStored t → s.KeepsStored t.react := fun h =>
    (h.trans (State.react_leaves _)).keeps
  cases i <;> simp only [takeRequest, reduceCtorEq, Option.some.injEq] at h <;> subst h
  case restart => exact takeRestart_keepsStored s
  case setGauge => exact takeSetGauge_keepsStored _ _ _ _ _ s
  case readGauge => exact left (takeReadGauge_leaves _ _ s)
  case setGaugePosition => exact left (takeSetGaugePosition_leaves _ _ s)
  case tableOpen => exact takeTableOpen_keepsStored _ _ s
  case tablePoint => exact takeTablePoint_keepsStored _ _ s
  case tableCommit => exact takeTableCommit_keepsStored _ running
  case saveSettings => exact takeSaveSettings_keepsStored running
  case hello | readFlasher | readFan | readStore => exact .refl s
  case readEvents | setAttnLevel | setLinkTimeout =>
    dsimp only [takeReadEvents, takeSetAttnLevel, takeSetLinkTimeout, accept_state]
    exact left {}
  case setEvent | readDemand | readInputs | readMap | readChannel | setSender | readSender | readSupply | tableRead =>
    dsimp only [takeSetEvent, takeReadDemand, takeReadInputs, takeReadMap, takeReadChannel, takeSetSender,
      State.changeSender, takeReadSender, takeReadSupply, takeTableRead, accept_state]
    repeat' split
    all_goals exact left {}
  case setDemand | releaseDemand =>
    dsimp only [takeSetDemand, takeReleaseDemand]
    repeat' split
    · exact .refl s
    · exact .refl s
    · exact left (s.writeFn_leaves _ _)
  case setDemandIf =>
    have cleared : ∀ u : State, u.LeavesStored { u with reservation := none } := fun _ => {}
    unfold takeSetDemandIf
    repeat' split
    · exact .refl s
    · exact .refl s
    · exact left ((s.writeFn_leaves _ _).trans (cleared _))
    · exact left (cleared s)
  case setFunction =>
    unfold takeSetFunction
    split
    · rename_i f mode _ _
      have moded : s.LeavesStored (s.withMode f mode) := {}
      exact left (moded.trans (State.writeFn_leaves _ _ _))
    · exact .refl s
  case setInput =>
    unfold takeSetInput
    split
    · exact left (s.bindInput_leaves _ _)
    · exact .refl s
  case setMap =>
    unfold takeSetMap
    split
    · dsimp only
      repeat' split
      · exact .refl s
      · exact .refl s
      · exact reacts {}
    · exact .refl s
  case setRole =>
    unfold takeSetRole
    split
    · exact .refl s
    · exact reacts {}
  case setChannel =>
    unfold takeSetChannel
    split
    · dsimp only
      repeat' split
      · exact .refl s
      · exact reacts {}
      · exact .refl s
    · exact .refl s
  case clearChannel =>
    unfold takeClearChannel
    split
    · exact .refl s
    · exact reacts (s.setChannel_leaves _ _)
  case setFlasher => exact left (s.changeFlasher_leaves _ _)
  case setFan =>
    unfold takeSetFan
    split
    · exact .refl s
    · exact left (s.changeFan_leaves _)
  case setSupply =>
    unfold takeSetSupply
    split
    · exact .refl s
    · dsimp only
      split
      · exact reacts {}
      · exact .refl s

/-! ### Frames -/

theorem takeFrame_keepsStored (frame : Frame) {s : State} (running : s.restarting = false) :
    s.KeepsStored (takeFrame frame s).1 := by
  unfold takeFrame
  split
  · exact .refl s
  · exact .refl s
  · split
    · exact takeRequest_keepsStored _ _ (by assumption) running
    · exact .refl s

/-- A take keeps the three invariants in a part that is not to restart, in which alone a request is taken (R165). -/
def TakeKeepsStored (take : State → State × Reply) : Prop :=
  ∀ {s : State}, s.restarting = false → s.KeepsStored (take s).1

theorem State.answer_keepsStored {s : State} (running : s.restarting = false) (frame : Frame)
    {take : State → State × Reply} (place : Frame → List Outgoing → List Outgoing) (h : TakeKeepsStored take) :
    s.KeepsStored (s.answer frame take place) := by
  have served := s.withLink_leaves { s.link with served := some frame }
  exact (served.keeps.trans (h running)).trans (State.withLink_leaves _ _).keeps

theorem State.validFrame_leaves (s : State) : s.LeavesStored s.validFrame := by
  unfold State.validFrame
  dsimp only
  split
  · exact s.exitLimp_leaves.trans (State.withLink_leaves _ _)
  · exact s.withLink_leaves _

theorem State.holdPending_leaves (s : State) (frame : Frame) : s.LeavesStored (s.holdPending frame) := by
  rw [State.holdPending_eq]
  exact {}

theorem State.handOn_keepsStored (s : State) (frame : Frame) {take : State → State × Reply}
    (h : TakeKeepsStored take) : s.KeepsStored (s.handOn frame take) := by
  obtain ⟨-, running, e⟩ | ⟨-, e⟩ := s.handOn_cases frame take <;> rw [e]
  · exact s.validFrame_leaves.keeps.trans (State.answer_keepsStored running frame _ h)
  · exact (s.validFrame_leaves.trans (State.holdPending_leaves _ _)).keeps

theorem State.whenPowered_keepsStored (s : State) {k : State → State} (h : ∀ s : State, s.KeepsStored (k s)) :
    s.KeepsStored (s.whenPowered k) := by
  unfold State.whenPowered
  split
  · exact h s
  · exact .refl s

theorem State.serve_keepsStored (s : State) (i : Instr) {take : State → State × Reply} (h : TakeKeepsStored take) :
    s.KeepsStored (s.serve i take) := by
  refine s.whenPowered_keepsStored fun s => ?_
  split
  · exact s.handOn_keepsStored _ h
  · exact .refl s

theorem State.queueError_leaves (s : State) (status : Status) : s.LeavesStored (s.queueError status) := by
  unfold State.queueError
  split
  · exact .refl s
  · exact s.withLink_leaves _

theorem State.receive_leaves (s : State) (r : Receiver) : s.LeavesStored (s.receive r) := {}

theorem State.refuseLength_leaves (s : State) : s.LeavesStored s.refuseLength :=
  (s.receive_leaves _).trans (State.queueError_leaves _ _)

theorem State.checkFrame_keepsStored (s : State) (len : Byte) (frame : Frame) (chk : Byte) :
    s.KeepsStored (s.checkFrame len frame chk) := by
  unfold State.checkFrame
  dsimp only
  split
  · exact (s.receive_leaves _).keeps.trans (State.handOn_keepsStored _ _ (takeFrame_keepsStored frame))
  · exact ((s.receive_leaves _).trans (State.queueError_leaves _ _)).keeps

theorem State.receiveByte_keepsStored (s : State) (b : Byte) : s.KeepsStored (s.receiveByte b) := by
  unfold State.receiveByte
  split
  · split
    · exact (s.receive_leaves _).keeps
    · exact .refl s
  · split
    · exact s.refuseLength_leaves.keeps
    · exact (s.receive_leaves _).keeps
  · exact (s.receive_leaves _).keeps
  · exact (s.receive_leaves _).keeps
  · exact s.checkFrame_keepsStored _ _ _

theorem State.serveNext_keepsStored (s : State) : s.KeepsStored s.serveNext := by
  unfold State.serveNext
  dsimp only
  split
  · split
    · exact (s.withLink_leaves _).keeps
    · rename_i running
      exact (s.withLink_leaves _).keeps.trans
        (State.answer_keepsStored (Bool.not_eq_true _ ▸ running) _ _ (takeFrame_keepsStored _))
  · exact (s.withLink_leaves _).keeps

theorem State.sendReply_keepsStored (s : State) : s.KeepsStored s.sendReply := by
  unfold State.sendReply
  split
  · exact .refl s
  · dsimp only
    split
    · exact (s.withLink_leaves _).keeps.trans (State.serveNext_keepsStored _)
    · exact (s.withLink_leaves _).keeps

/-! ### Power and the clock -/

theorem factoryTable_fits (page : Fin 8) : tableFits page (factoryTable page) = true := by
  revert page; decide

theorem startGauge_inRange : startGauge.InRange := by
  simp [Gauge.InRange, startGauge]

theorem factorySettings_dampingsFit : factorySettings.dampingsFit = true := by decide

/-- Starting afresh takes each table and the settings from their page where it is valid, and from the factory where not
(R117, R152). -/
theorem State.startUp_keepsStored (s : State) (detail : Nat) : s.KeepsStored (s.startUp detail) := by
  refine ⟨fun ht => ?_, fun _ range => ?_, fun _ => ⟨nofun, fun _ => rfl⟩⟩
  · obtain ⟨tables, -, -⟩ := s.tablesFit_iff.1 ht
    refine (State.tablesFit_iff _).2 ⟨fun p => ⟨?_, (tables p).2⟩, nofun, nofun⟩
    have active : (s.startUp detail).tables[p] = s.store.tablePages[p].getD (factoryTable p) := vecOfFn_getElem_fin _ p
    rw [active]
    cases hp : s.store.tablePages[p] with
    | none => exact factoryTable_fits p
    | some x => exact (tables p).2 x hp
  · obtain ⟨-, -, page, -⟩ := s.gaugesInRange_iff.1 range
    refine (State.gaugesInRange_iff _).2 ⟨fun g => ?_, ?_, page, nofun⟩
    · have fresh : (s.startUp detail).gauge g = startGauge := Vector.getElem_replicate _
      rw [fresh]
      exact startGauge_inRange
    · have copy : (s.startUp detail).settings = s.store.settingsPage.getD factorySettings := rfl
      rw [copy]
      cases hp : s.store.settingsPage with
      | none => exact factorySettings_dampingsFit
      | some x => exact page x hp

theorem State.hold_keepsStored (s : State) : s.KeepsStored s.hold := by
  have held : (s.startUp 0).LeavesStored s.hold := {
    tables := rfl
    dampings := rfl
    restarting := rfl
    gauges := fun _ => id
    store := ⟨rfl, rfl, nofun, nofun⟩ }
  exact (s.startUp_keepsStored 0).trans held.keeps

/-- A millisecond moves timers alone, the time since a programming began among them. -/
theorem State.tick_keepsStored (s : State) : s.KeepsStored s.tick := by
  refine s.whenPowered_keepsStored fun s => State.LeavesStored.keeps {
    gauges := fun g hg => ?_
    store := ⟨rfl, rfl, fun _ => id, fun p' hp' => ?_⟩ }
  · have ticked : (s.gauge g).tick.InRange := hg
    rwa [← vecOfFn_getElem_fin (fun g => (s.gauge g).tick) g] at ticked
  · obtain ⟨p, hp, rfl⟩ := Option.map_eq_some_iff.1 hp'
    exact ⟨p, hp, rfl⟩

/-! ### The commands of the timers and the samples -/

theorem State.sampleChannel_leaves (s : State) (c : Fin 16) (milliamps : Nat) :
    s.LeavesStored (s.sampleChannel c milliamps) := by
  have tripped : ∀ u : State, u.LeavesStored (u.trip c) := fun _ => {}
  unfold State.sampleChannel
  dsimp only
  repeat' split
  · exact ((s.setChannel_leaves _ _).trans (tripped _)).trans (State.react_leaves _)
  · exact s.setChannel_leaves _ _
  · exact s.setChannel_leaves _ _

theorem State.sampleFan_leaves (s : State) (milliamps : Nat) : s.LeavesStored (s.sampleFan milliamps) := by
  unfold State.sampleFan
  dsimp only
  repeat' split
  all_goals exact {}

theorem State.sampleSender_leaves (s : State) (n : Fin 4) (pin : SenderPin) :
    s.LeavesStored (s.sampleSender n pin) := by
  unfold State.sampleSender
  dsimp only
  split <;> exact {}

theorem State.expireTimer_leaves (s : State) (runsIn : Bool) (timer : SupplyTimer) (next : SupplyState)
    (armed : Bool) : s.LeavesStored (s.expireTimer runsIn timer next armed) := by
  have moved : s.LeavesStored (s.moveSupply next armed) := {}
  unfold State.expireTimer State.whenPowered
  repeat' split
  · exact moved.trans (State.react_leaves _)
  · exact .refl s
  · exact .refl s

/-! ### Every command and every step -/

/-- A command that is no request keeps the three invariants. -/
theorem exec_event_keepsStored (i : Instr) (h : frameOf? i = none) (s t : State) (ht : exec i s = .next t) :
    s.KeepsStored t := by
  have powered : ∀ {k : State → State}, (∀ s : State, s.KeepsStored (k s)) → s.KeepsStored (s.whenPowered k) :=
    s.whenPowered_keepsStored
  have left : ∀ {t u : State}, t.LeavesStored u → t.KeepsStored u := State.LeavesStored.keeps
  have reacts : ∀ {t u : State}, t.LeavesStored u → t.KeepsStored u.react := fun h =>
    (h.trans (State.react_leaves _)).keeps
  cases i <;> simp only [frameOf?, reduceCtorEq] at h <;> obtain rfl := Host.Outcome.next.inj ht
  case powerOnReset => exact s.startUp_keepsStored 0
  case partRestart =>
    refine powered fun s => ?_
    split
    · exact s.startUp_keepsStored 1
    · exact .refl s
  case frameReceived =>
    refine powered fun s => ?_
    split
    · exact s.checkFrame_keepsStored _ _ _
    all_goals exact .refl s
  case frameBadLength =>
    refine powered fun s => ?_
    split
    · exact left s.refuseLength_leaves
    · exact .refl s
  case frameGapTimeout => exact powered fun s => left (s.receive_leaves _)
  case replySent => exact powered State.sendReply_keepsStored
  case unknownKindRequest =>
    refine powered fun s => ?_
    split
    · exact .refl s
    · exact s.handOn_keepsStored _ fun _ => .refl _
  case programmingComplete =>
    refine powered fun s => ?_
    repeat' split
    · exact .refl s
    · exact left (s.failProgramming_leaves _ _)
    · exact s.finishProgramming_keepsStored _ (by assumption)
    · exact left (s.failProgramming_leaves _ _)
  case limpEntry =>
    refine powered fun s => ?_
    split
    · exact .refl s
    · exact left s.enterLimp_leaves
  case switchRawChange => exact left (s.setInput_leaves _ _)
  case debounceExpiry =>
    exact powered fun s => left ((s.setInput_leaves _ _).trans (State.debounceTo_leaves _ _ _))
  case runOnExpiry =>
    refine powered fun s => ?_
    split
    · exact left (s.cancelSide_leaves _)
    · exact .refl s
  case phaseBoundary =>
    refine powered fun s => ?_
    split
    · exact .refl s
    · exact reacts {}
  case inrushEnd | pullInEnd =>
    refine powered fun s => ?_
    split
    · exact left (s.setChannel_leaves _ _)
    · exact .refl s
  case goodRunExpiry =>
    refine powered fun s => ?_
    dsimp only
    split
    · exact left (s.setChannel_leaves _ _)
    · exact .refl s
  case channelSample => exact powered fun s => left (s.sampleChannel_leaves _ _)
  case lampOpenDetect =>
    refine powered fun s => ?_
    dsimp only
    repeat' split
    · exact left (s.setChannel_leaves _ _)
    · exact reacts ((s.setChannel_leaves _ _).trans (State.raise_leaves _ _ _))
    · exact .refl s
  case lampOpenClear | tripWaitEnd =>
    refine powered fun s => ?_
    dsimp only
    split
    · exact reacts (s.setChannel_leaves _ _)
    · exact .refl s
  case senderSample => exact powered fun s => left (s.sampleSender_leaves _ _)
  case gaugeUpdate =>
    exact powered fun s => (s.updateGauge_keepsStored _).trans (left (State.setGauge_leaves _ _ id))
  case driverSample => exact powered fun s => left (s.sampleDriver_leaves _ _)
  case driverWaitEnd =>
    refine powered fun s => ?_
    split
    · exact left (s.setGauge_leaves _ id)
    · exact .refl s
  case settleWindowEnd =>
    refine powered fun s => ?_
    split
    · exact reacts {}
    · exact .refl s
  case fanRampStep | fanOpenDetect | fanOpenClear | stallWaitEnd | fanStall =>
    refine powered fun s => ?_
    split
    · exact left {}
    · exact .refl s
  case fanSample => exact powered fun s => left (s.sampleFan_leaves _)
  case sampleSlot => exact powered fun s => reacts {}
  case leanTimerExpiry | budgetTimerExpiry | recoveryTimerExpiry | shedTimerExpiry | unshedTimerExpiry
      | crankExitTimerExpiry | crankLimitTimerExpiry => exact left (s.expireTimer_leaves _ _ _ _)
  case powerLoss => exact powered State.hold_keepsStored
  case byteReceived => exact powered fun s => s.receiveByte_keepsStored _

theorem exec_keepsStored (i : Instr) (s t : State) (ht : exec i s = .next t) : s.KeepsStored t := by
  cases hf : frameOf? i with
  | none => exact exec_event_keepsStored i hf s t ht
  | some frame =>
    obtain ⟨take, hk, he⟩ := exec_request i frame hf
    obtain rfl := Host.Outcome.next.inj ((he s).symm.trans ht)
    exact s.serve_keepsStored i fun running => takeRequest_keepsStored i take hk running

theorem step_keepsStored (s t : State) (h : step s = .next t) : s.KeepsStored t := by
  obtain ⟨i, rest, h⟩ | ⟨i, h⟩ | rfl := step_cases h
  · have queued : s.LeavesStored (s.withPending rest) := {}
    exact queued.keeps.trans (exec_keepsStored i _ t h)
  · have counted : s.LeavesStored s.clockActed := {}
    exact counted.keeps.trans (exec_keepsStored i _ t h)
  · exact s.tick_keepsStored

end Sys2Proof.Machine

open Sys2Proof Sys2Proof.Machine

/-- Settles O59: of what the three invariants read, a step writes only what fits; a page loses its mark as its programming
begins, and none begins once a RESTART has been accepted. -/
theorem everyStepKeepsTablesAndPages : Obligations.EveryStepKeepsTablesAndPages := by
  unfold Obligations.EveryStepKeepsTablesAndPages
  intro s t h
  obtain ⟨tables, gauges, flight⟩ := step_keepsStored s t h
  exact ⟨tables, gauges, flight⟩

end

section
/-! SUPPORT. The fan's moves and its commands, each command an equation (R119 to R130). -/

namespace Sys2Proof.Machine

/-! ### The table of moves -/

/-- A ramp step, on the duty and the state of a fan whose ramp timer stands at zero (R124). -/
theorem Fan.enterRamp_eq (f : Fan) (step target : Nat) : f.enterRamp step target = { f with
    dutyNow := min (f.dutyNow + step) target, rampTimer := 0, rampSteps := 0
    state := if target ≤ f.dutyNow + step then .run else .ramp } := by
  unfold Fan.enterRamp Fan.rampStep Fan.rampStopped
  by_cases h : target ≤ f.dutyNow + step
  · simp only [if_pos h, min_eq_right h]
  · simp only [if_neg h, min_eq_left (Nat.le_of_not_le h)]

/-- A fan that is OFF follows its target duty (R124). -/
theorem Fan.follow_off {f : Fan} (h : f.state = .off) (step target : Nat) : f.follow step target
    = if target = 0 then f else ({ f with dutyNow := 0 } : Fan).enterRamp step target := by
  rcases Nat.eq_zero_or_pos target with rfl | positive
  · exact Fan.follow_of_off h step
  · simp [Fan.follow, h, positive, Nat.ne_of_gt positive]

/-- A fan in RAMP follows its target duty (R124). -/
theorem Fan.follow_ramp {f : Fan} (h : f.state = .ramp) (step target : Nat) : f.follow step target
    = if target = 0 then f.stopIn .off
      else if target ≤ f.dutyNow then { f.rampStopped with dutyNow := target, state := .run } else f := by
  simp only [Fan.follow, h]

/-- A fan in RUN follows its target duty (R124). -/
theorem Fan.follow_run {f : Fan} (h : f.state = .run) (step target : Nat) : f.follow step target
    = if target = 0 then f.stopIn .off
      else if target ≤ f.dutyNow then { f with dutyNow := target } else f.enterRamp step target := by
  simp only [Fan.follow, h]
  by_cases below : f.dutyNow < target
  · rw [if_pos below, if_neg (Nat.not_le.2 below)]
  · rw [if_neg below, if_pos (Nat.le_of_not_lt below)]

/-- A fan that waits or is locked does not follow (R124). -/
theorem Fan.follow_stalled {f : Fan} (h : f.state = .stallWait ∨ f.state = .stallLock) (step target : Nat) :
    f.follow step target = f := by
  obtain h | h := h <;> simp only [Fan.follow, h]

/-- The target duty, spelled out (R123, R139). -/
theorem State.fanTarget_eq (s : State) : s.fanTarget = min (match s.fan.targetStep with
    | 1 => s.settings.fan.duty1
    | 2 => s.settings.fan.duty2
    | 3 => s.settings.fan.duty3
    | _ => 0) (match s.supply.state with
    | .normal => 1000
    | .lean => s.settings.fan.duty1
    | .shed => 0
    | .crank => 0) := by
  unfold State.fanTarget State.fanCap FanConfig.stepDuty
  cases s.supply.state <;> rfl

/-- The step chosen when the settle timer ends, spelled out (R122). -/
theorem State.chosenStep_eq (s : State) :
    s.chosenStep = if s.settings.fan.ignitionFed = true ∧ s.eff .ign ≠ 1 then 0 else s.eff .fan := by
  simp [State.chosenStep]

/-! ### A fault -/

/-- The first fault and the second (R127). -/
theorem State.fanFault_waits {s : State} (h : s.fan.stallCount < 2) (detail : Nat) : s.fanFault detail
    = ({ s with fan := { s.fan.stopIn .stallWait with stallCount := s.fan.stallCount + 1 } } : State).raise
      .fanStall detail :=
  if_pos (by omega)

/-- The third fault, or one beyond it, locks the fan (R127). -/
theorem State.fanFault_locks {s : State} (h : ¬ s.fan.stallCount < 2) (detail : Nat) : s.fanFault detail
    = (({ s with fan := { s.fan.stopIn .stallLock with stallCount := 3 } } : State).raise
      .fanStall detail).raise .fanLocked 0 :=
  if_neg (by omega)

/-! ### The commands -/

section
variable {s : State} (h : s.powered = true)
include h

theorem exec_settleWindowEnd : exec .settleWindowEnd s
    = .next (if s.fan.settle.isSome then s.endSettle.react else s) := by
  simp only [exec, execSettleWindowEnd, State.whenPowered_on _ _ h]

theorem exec_fanRampStep : exec .fanRampStep s = .next (if s.fan.state = .ramp then
    { s with fan := s.fan.rampReached.rampStep s.settings.fan.rampStep s.fanTarget } else s) := by
  simp only [exec, execFanRampStep, State.whenPowered_on _ _ h]

theorem exec_stallWaitEnd : exec .stallWaitEnd s = .next (if s.fan.state = .stallWait then
    ({ s with fan := s.fan.stopIn .off } : State).fanFollow else s) := by
  simp only [exec, execStallWaitEnd, State.whenPowered_on _ _ h]

theorem exec_fanSample (milliamps : Nat) : exec (.fanSample milliamps) s = .next (s.sampleFan milliamps) := by
  simp only [exec, execFanSample, State.whenPowered_on _ _ h]

theorem exec_fanStall : exec .fanStall s = .next (if (s.fan.state = .ramp ∨ s.fan.state = .run)
    ∧ s.fan.stallRun ≠ none ∧ s.supply.state ≠ .crank then s.fanFault 0 else s) := by
  simp [exec, execFanStall, State.whenPowered_on _ _ h, FanState.conducting_iff, Option.isSome_iff_ne_none, and_assoc]

theorem exec_fanOpenDetect : exec .fanOpenDetect s = .next (if (s.fan.state = .ramp ∨ s.fan.state = .run)
    ∧ s.fan.lowRun ≠ none then
      { s with fan := { s.fan with lowRun := s.fan.lowRun.map (max 2000), openFlag := true } } else s) := by
  simp [exec, execFanOpenDetect, State.whenPowered_on _ _ h, FanState.conducting_iff, Option.isSome_iff_ne_none,
    reachRun, fanOpenTestTime]

theorem exec_fanOpenClear : exec .fanOpenClear s = .next (if (s.fan.state = .ramp ∨ s.fan.state = .run)
    ∧ s.fan.highRun ≠ none then
      { s with fan := { s.fan with highRun := s.fan.highRun.map (max 2000), openFlag := false } } else s) := by
  simp [exec, execFanOpenClear, State.whenPowered_on _ _ h, FanState.conducting_iff, Option.isSome_iff_ne_none,
    reachRun, fanOpenTestTime]

end

/-! ### The sample -/

section
variable {s : State} {milliamps : Nat}

/-- Outside RAMP and RUN a sample is kept and tests nothing (R119). -/
theorem State.sampleFan_resting (h : ¬ (s.fan.state = .ramp ∨ s.fan.state = .run)) : s.sampleFan milliamps
    = { s with fan := { s.fan with current := currentReading 30000 milliamps } } := by
  rw [← FanState.conducting_iff, Bool.not_eq_true] at h
  simp [State.sampleFan, h, fanTop]

/-- A trip is a fault of the fan with the sample kept (R126). -/
theorem State.sampleFan_trip (h : s.fan.state = .ramp ∨ s.fan.state = .run)
    (above : 25000 < currentReading 30000 milliamps) : s.sampleFan milliamps
    = ({ s with fan := { s.fan with current := currentReading 30000 milliamps } } : State).fanFault 1 := by
  rw [← FanState.conducting_iff] at h
  simp [State.sampleFan, h, fanTop, above]

/-- A sample that is no trip starts, keeps or ends the three runs (R125, R129, R130). -/
theorem State.sampleFan_test (h : s.fan.state = .ramp ∨ s.fan.state = .run)
    (within : currentReading 30000 milliamps ≤ 25000) :
    let reading := currentReading 30000 milliamps
    s.sampleFan milliamps = { s with fan := { s.fan with
      current := reading
      stallRun := if s.settings.fan.stallLimit < reading ∧ s.supply.state ≠ .crank
        then some (s.fan.stallRun.getD 0) else none
      lowRun := if reading < 200 ∧ 300 ≤ s.fan.dutyNow then some (s.fan.lowRun.getD 0) else none
      highRun := if reading < 200 then none else some (s.fan.highRun.getD 0) } } := by
  intro reading
  rw [← FanState.conducting_iff] at h
  have tested : s.sampleFan milliamps = { s with fan := (({ s.fan with current := reading } : Fan).stallAfter
      s.settings.fan.stallLimit reading (s.supply.state == .crank)).openAfter reading } := by
    simp [State.sampleFan, h, fanTop, Nat.not_lt.2 within, reading]
  rw [tested, Fan.openAfter]
  by_cases low : reading < 200 <;> simp [low, Fan.stallAfter, continueRun]

end

end Sys2Proof.Machine

open Sys2Proof Sys2Proof.Machine

/-- Settles O45: the table of moves state by state, and each timer's command as one equation. -/
theorem fanTimersMoveTheFan : Obligations.FanTimersMoveTheFan := by
  unfold Obligations.FanTimersMoveTheFan
  refine ⟨fun f step target => ?_, fun s hp => ?_⟩
  · intro up stopped
    have rises : f.enterRamp step target = up f.dutyNow := Fan.enterRamp_eq f step target
    refine ⟨fun off => ?_, fun ramp => ?_, fun run => ?_, fun stalled => Fan.follow_stalled stalled step target⟩
    · rw [Fan.follow_off off, Fan.enterRamp_eq]
    · rw [Fan.follow_ramp ramp]; rfl
    · rw [Fan.follow_run run, rises]; rfl
  · intro f step target
    have target_eq : s.fanTarget = target := s.fanTarget_eq
    rw [exec_settleWindowEnd hp, exec_fanRampStep hp, exec_stallWaitEnd hp]
    refine ⟨fun runs => ⟨_, rfl, ?_⟩, fun stopped => ?_, fun ramp => ?_, fun other => ?_, fun waits => ?_, fun other => ?_⟩
    · rw [if_pos (Option.isSome_iff_ne_none.2 runs), ← State.chosenStep_eq]
      exact s.endSettle.react_settled
    · rw [if_neg (by simp [show s.fan.settle = none from stopped])]
    · rw [if_pos ramp, target_eq, Fan.rampStep]
      have stays : ({ f with state := .ramp } : Fan) = f := by rw [← show f.state = .ramp from ramp]
      split
      · rw [if_pos (by assumption)]; rfl
      · rw [if_neg (by assumption), ← stays]; rfl
    · rw [if_neg other]
    · have left : ({ s with fan := s.fan.stopIn .off } : State).fanFollow
          = { s with fan := (f.stopIn .off).follow step target } := by rw [← target_eq]; rfl
      rw [if_pos waits, left, Fan.follow_off rfl, Fan.enterRamp_eq]
      by_cases none : target = 0 <;> simp [none, Fan.stopIn, f]
    · rw [if_neg other]

/-- Settles O46: a fault is one equation for each outcome; the other samples and the open test's ends are puts of the fan. -/
theorem fanSamplesTestTheMotor : Obligations.FanSamplesTestTheMotor := by
  unfold Obligations.FanSamplesTestTheMotor
  refine ⟨fun s hp => ?_, fun s hp => ?_⟩
  · intro f conducts after
    have faults : ∀ detail current, ({ s with fan := { s.fan with current := current } } : State).fanFault detail
        = after detail current := fun detail current => by
      by_cases few : f.stallCount < 2
      · rw [show after detail current = _ from if_pos few]
        exact State.fanFault_waits (s := { s with fan := { s.fan with current := current } }) few detail
      · rw [show after detail current = _ from if_neg few]
        exact State.fanFault_locks (s := { s with fan := { s.fan with current := current } }) few detail
    rw [exec_fanStall hp]
    refine ⟨fun milliamps turns above => ?_, fun turns runs crank => ?_, fun idle => ?_⟩
    · rw [exec_fanSample hp, State.sampleFan_trip turns above, faults]
    · rw [if_pos ⟨turns, runs, crank⟩, ← faults]
    · rw [if_neg (by tauto)]
  · intro f conducts
    rw [exec_fanOpenDetect hp, exec_fanOpenClear hp]
    refine ⟨fun milliamps => ⟨fun rests => ?_, fun turns within => ?_⟩, fun turns runs => ?_, fun idle => ?_,
      fun turns runs => ?_, fun idle => ?_⟩
    · rw [exec_fanSample hp, State.sampleFan_resting rests]
    · rw [exec_fanSample hp, State.sampleFan_test turns within]
    · rw [if_pos ⟨turns, runs⟩]
    · rw [if_neg (by tauto)]
    · rw [if_pos ⟨turns, runs⟩]
    · rw [if_neg (by tauto)]

end

section
/-! SUPPORT. SET_FAN: the settings it takes, and what the change of ignition-fed and the new settle window leave of the fan
before it follows its target duty (R121, R122, log 39). -/

namespace Sys2Proof.Machine

theorem fanConfigOf_eq (d1 d2 d3 ramp settle stall : Nat) (fed : Bool) : fanConfigOf d1 d2 d3 ramp settle stall fed =
    { duty1 := min 1000 d1, duty2 := min 1000 d2, duty3 := min 1000 d3
      rampStep := max 10 (min 1000 ramp), settleWindow := min 3000 settle
      stallLimit := max 2000 (min 15000 stall), ignitionFed := fed } := by
  simp only [fanConfigOf, clamp, Nat.min_comm]

theorem takeSetFan_accepts (d0 d1 d2 d3 ramp settle stall : Nat) (fed : Bool) (s : State) :
    takeSetFan d0 d1 d2 d3 ramp settle stall (bit fed 1) s
      = accept (s.changeFan (fanConfigOf d1 d2 d3 ramp settle stall fed))
        (fanConfigBytes (fanConfigOf d1 d2 d3 ramp settle stall fed)) := by
  simp [takeSetFan]

/-- The new settle window ends a running settle timer that has passed it (R121). -/
theorem State.settleWindowJudged_eq (s : State) : s.settleWindowJudged = { s with fan := match s.fan.settle with
    | some t => if s.settings.fan.settleWindow ≤ t then
        { s.fan with
          settle := none
          targetStep := if s.settings.fan.ignitionFed = true ∧ s.eff .ign ≠ 1 then 0 else s.eff .fan } else s.fan
    | none => s.fan } := by
  unfold State.settleWindowJudged State.endSettle State.chosenStep
  cases s.fan.settle with
  | none => rfl
  | some t => by_cases passed : s.settings.fan.settleWindow ≤ t <;> simp [passed]

/-- A start under a window of 0 ends at once, as the judging of the window would end it (R121, R122). -/
theorem State.startSettle_judged (s : State) : s.startSettle.settleWindowJudged
    = ({ s with fan := { s.fan with settle := some 0 } } : State).settleWindowJudged := by
  by_cases h : s.settings.fan.settleWindow = 0
  · have ended : s.startSettle = s.endSettle := if_pos h
    have passed : s.settings.fan.settleWindow ≤ 0 := h.le
    rw [ended, State.settleWindowJudged_eq, State.settleWindowJudged_eq]
    simp only [State.endSettle, if_pos passed, State.chosenStep_eq]
    rfl
  · rw [State.startSettle, if_neg h]

/-- A change of ignition-fed under the new window (R121, R122). -/
theorem State.fanOnFeed_judged (s : State) (before : Bool) : (s.fanOnFeed before).settleWindowJudged
    = ({ s with fan :=
        if before = s.settings.fan.ignitionFed ∨ s.eff .ign = 1 then s.fan
        else if s.settings.fan.ignitionFed = true then { s.fan with settle := none, targetStep := 0 }
        else if s.eff .fan = 0 then s.fan
        else { s.fan with settle := some 0 } } : State).settleWindowJudged := by
  unfold State.fanOnFeed
  dsimp only
  simp only [eq_comm (a := before)]
  split_ifs
  · rfl
  · rfl
  · rfl
  · exact s.startSettle_judged

end Sys2Proof.Machine

open Sys2Proof Sys2Proof.Machine

/-- Settles O44: the accepted take is `State.changeFan`, which ends in the reaction of the blocks. -/
theorem fanSettingsAreTaken : Obligations.FanSettingsAreTaken := by
  unfold Obligations.FanSettingsAreTaken
  intro s d0 d1 d2 d3 ramp settle stall fed ha k f f'
  let frame : Frame := ⟨0x40, u16 d0 ++ u16 d1 ++ u16 d2 ++ u16 d3 ++ u16 ramp ++ u16 settle ++ u16 stall
    ++ u8 (bit fed 1)⟩
  let set : State := { s.heard frame with settings := { s.settings with fan := k } }
  have config : fanConfigOf d1 d2 d3 ramp settle stall fed = k := fanConfigOf_eq d1 d2 d3 ramp settle stall fed
  have judged : (set.fanOnFeed s.settings.fan.ignitionFed).settleWindowJudged = { set with fan := f' } :=
    (set.fanOnFeed_judged _).trans (State.settleWindowJudged_eq _)
  have effect : (s.heard frame).changeFan k = ({ set with fan := f' } : State).react := congrArg State.react judged
  have taken := takeSetFan_accepts d0 d1 d2 d3 ramp settle stall fed (s.heard frame)
  rw [config, effect] at taken
  have settled := State.react_settled { set with fan := f' }
  exact ⟨_, exec_accepted ha rfl rfl taken, settled.withLink _⟩

end

section
/-! SUPPORT. The fan under a change of FAN and IGN: what the fan takes of it, part by part, and the one relation that every cause
of such a change leaves between the part before and the part after (R122, R124, R128, log 30). -/

namespace Sys2Proof.Machine

/-! ### What the fan takes of a change, part by part -/

/-- The fan with its settle timer started on the values of a part, which a window of 0 ends at once (R122). -/
def State.fanStarted (s t : State) (f : Fan) : Fan :=
  if s.settings.fan.settleWindow = 0 then
    { f with
      settle := none
      targetStep := if s.settings.fan.ignitionFed = true ∧ t.eff .ign ≠ 1 then 0 else t.eff .fan }
  else { f with settle := some 0 }

/-- The fan after the change of IGN between two parts (R122). -/
def State.fanAfterIgnition (s t : State) : Fan :=
  if t.eff .ign = s.eff .ign ∨ s.settings.fan.ignitionFed = false then s.fan
  else if t.eff .ign ≠ 1 then { s.fan with settle := none, targetStep := 0 }
  else if t.eff .fan = 0 then s.fan
  else s.fanStarted t s.fan

section
variable (s t : State)

/-- IGN first, then FAN (log 30). -/
theorem State.fanAfterDemand_eq : s.fanAfterDemand t =
    let f := s.fanAfterIgnition t
    if t.eff .fan = s.eff .fan then f
    else if t.eff .fan = 0 then
      { f with
        settle := none, targetStep := 0, stallCount := 0
        state := if f.state = .stallLock then .off else f.state }
    else s.fanStarted t f := rfl

theorem State.fanStarted_keeps (f : Fan) :
    (s.fanStarted t f).stallCount = f.stallCount ∧ (s.fanStarted t f).state = f.state := by
  unfold State.fanStarted
  split <;> exact ⟨rfl, rfl⟩

/-- A change of IGN touches neither the stall count nor the fan's state. -/
theorem State.fanAfterIgnition_keeps :
    (s.fanAfterIgnition t).stallCount = s.fan.stallCount ∧ (s.fanAfterIgnition t).state = s.fan.state := by
  unfold State.fanAfterIgnition
  repeat' split
  · exact ⟨rfl, rfl⟩
  · exact ⟨rfl, rfl⟩
  · exact ⟨rfl, rfl⟩
  · exact s.fanStarted_keeps t s.fan

/-- With a settle window a change of IGN drops the target step or leaves it as it was. -/
theorem State.fanAfterIgnition_targetStep (window : s.settings.fan.settleWindow ≠ 0) :
    (s.fanAfterIgnition t).targetStep
      = if t.eff .ign ≠ s.eff .ign ∧ s.settings.fan.ignitionFed = true ∧ t.eff .ign ≠ 1 then 0
        else s.fan.targetStep := by
  unfold State.fanAfterIgnition
  by_cases alone : t.eff .ign = s.eff .ign ∨ s.settings.fan.ignitionFed = false
  · rw [if_pos alone, if_neg]
    rintro ⟨changed, fed, -⟩
    simp [changed, fed] at alone
  · obtain ⟨changed, fed⟩ := not_or.1 alone
    by_cases off : t.eff .ign ≠ 1
    · rw [if_neg alone, if_pos off, if_pos ⟨changed, Bool.eq_true_of_not_eq_false fed, off⟩]
    · have kept : ¬ (t.eff .ign ≠ s.eff .ign ∧ s.settings.fan.ignitionFed = true ∧ t.eff .ign ≠ 1) :=
        fun ⟨_, _, off'⟩ => off off'
      rw [if_neg alone, if_neg off, if_neg kept]
      split
      · rfl
      · rw [State.fanStarted, if_neg window]

end

/-! ### The relation -/

/-- A cause has left the fan alone with FAN and IGN as they were, or the fan has taken what changed of them and then
followed its target duty (R122, R124, R128). -/
def State.FanTook (s t : State) : Prop :=
  (t.fan = s.fan ∧ t.eff .ign = s.eff .ign ∧ t.eff .fan = s.eff .fan)
  ∨ ∃ step, t.fan = (s.fanAfterDemand t).follow step t.fanTarget

/-- The settle timer has started, and a window of 0 has ended it at once (R122). -/
def State.fanRestarted (s t : State) : Prop :=
  t.fan.stallCount = s.fan.stallCount
  ∧ (s.settings.fan.settleWindow ≠ 0 → t.fan.settle = some 0)
  ∧ (s.settings.fan.settleWindow = 0 → t.fan.settle = none ∧ t.fan.targetStep
      = if s.settings.fan.ignitionFed = true ∧ t.eff .ign ≠ 1 then 0 else t.eff .fan)

/-- The choice of step is as it was. -/
def State.fanUntouched (s t : State) : Prop :=
  t.fan.settle = s.fan.settle ∧ t.fan.targetStep = s.fan.targetStep ∧ t.fan.stallCount = s.fan.stallCount

/-- A fan that is not locked follows a target duty of 0 by going to OFF, or waits on where it waits (R124). -/
theorem Fan.follow_zero_state (f : Fan) (step : Nat) (unlocked : f.state ≠ .stallLock) :
    (f.follow step 0).state = if f.state = .stallWait then .stallWait else .off := by
  cases h : f.state
  case off => rw [Fan.follow_of_off h, h]; rfl
  case ramp => rw [Fan.follow_ramp h, if_pos rfl]; rfl
  case run => rw [Fan.follow_run h, if_pos rfl]; rfl
  case stallWait => rw [Fan.follow_stalled (.inl h), h]; rfl
  case stallLock => exact absurd h unlocked

namespace State.FanTook

variable {s t : State} (h : s.FanTook t)
include h

/-- Following the target duty moves neither the settle timer nor the target step nor the stall count. -/
theorem choice_eq : t.fan.settle = (s.fanAfterDemand t).settle ∧ t.fan.targetStep = (s.fanAfterDemand t).targetStep
    ∧ t.fan.stallCount = (s.fanAfterDemand t).stallCount := by
  obtain ⟨fan, ign, same⟩ | ⟨step, fan⟩ := h
  · rw [State.fanAfterDemand_of_untouched ign same, fan]
    exact ⟨rfl, rfl, rfl⟩
  · obtain ⟨-, -, targetStep, settle, count⟩ := Fan.follow_keeps (s.fanAfterDemand t) step t.fanTarget
    rw [fan]
    exact ⟨settle, targetStep, count⟩

theorem untouched_of_alone (alone : s.fanAfterDemand t = s.fan) : s.fanUntouched t := by
  have taken := h.choice_eq
  rwa [alone] at taken

/-- The settle timer has started on a fan whose stall count is as it was. -/
theorem restarted_of_started {f : Fan} (started : s.fanAfterDemand t = s.fanStarted t f)
    (count : f.stallCount = s.fan.stallCount) : s.fanRestarted t
      ∧ (s.settings.fan.settleWindow ≠ 0 → t.fan.targetStep = f.targetStep) := by
  obtain ⟨settle, targetStep, stalls⟩ := h.choice_eq
  rw [started] at settle targetStep stalls
  rw [State.fanRestarted, settle, targetStep, stalls, (s.fanStarted_keeps t f).1]
  unfold State.fanStarted
  split_ifs with window <;> simp [window, count]

/-- Where neither FAN nor an ignition that feeds the fan changes (R122). -/
theorem untouched (fan : t.eff .fan = s.eff .fan)
    (ign : t.eff .ign = s.eff .ign ∨ s.settings.fan.ignitionFed = false) : s.fanUntouched t :=
  h.untouched_of_alone (by rw [State.fanAfterDemand_eq, State.fanAfterIgnition, if_pos fan, if_pos ign])

/-- The ignition of an ignition-fed fan comes on with FAN at 0, comes on with FAN not 0, or goes off (R122). -/
theorem ignition (fan : t.eff .fan = s.eff .fan) (ign : t.eff .ign ≠ s.eff .ign)
    (fed : s.settings.fan.ignitionFed = true) :
    (t.eff .ign = 1 → t.eff .fan = 0 → s.fanUntouched t)
    ∧ (t.eff .ign = 1 → t.eff .fan ≠ 0 → s.fanRestarted t
      ∧ (s.settings.fan.settleWindow ≠ 0 → t.fan.targetStep = s.fan.targetStep))
    ∧ (t.eff .ign ≠ 1 → t.fan.settle = none ∧ t.fan.targetStep = 0 ∧ t.fan.stallCount = s.fan.stallCount) := by
  have taken := h.choice_eq
  have feeds : ¬ (t.eff .ign = s.eff .ign ∨ s.settings.fan.ignitionFed = false) := by simp [ign, fed]
  have change : s.fanAfterDemand t = s.fanAfterIgnition t := if_pos fan
  rw [State.fanAfterIgnition, if_neg feeds] at change
  refine ⟨fun on zero => h.untouched_of_alone ?_, fun on nonzero => h.restarted_of_started ?_ rfl, fun off => ?_⟩
  · rw [change, if_neg (not_not.2 on), if_pos zero]
  · rw [change, if_neg (not_not.2 on), if_neg nonzero]
  · rw [change, if_pos off] at taken
    exact taken

/-- FAN changes to another value than 0 (R122). -/
theorem turned_on (fan : t.eff .fan ≠ s.eff .fan) (nonzero : t.eff .fan ≠ 0) : s.fanRestarted t
    ∧ (s.settings.fan.settleWindow ≠ 0 → t.fan.targetStep
      = if t.eff .ign ≠ s.eff .ign ∧ s.settings.fan.ignitionFed = true ∧ t.eff .ign ≠ 1 then 0
        else s.fan.targetStep) := by
  have started : s.fanAfterDemand t = s.fanStarted t (s.fanAfterIgnition t) := by
    rw [State.fanAfterDemand_eq]
    exact (if_neg fan).trans (if_neg nonzero)
  obtain ⟨restarted, targetStep⟩ := h.restarted_of_started started (s.fanAfterIgnition_keeps t).1
  exact ⟨restarted, fun window => (targetStep window).trans (s.fanAfterIgnition_targetStep t window)⟩

/-- FAN changes to 0 (R122, R128): the target duty is then 0, which the fan follows (R123, R124). -/
theorem turned_off (fan : t.eff .fan ≠ s.eff .fan) (zero : t.eff .fan = 0) :
    t.fan.settle = none ∧ t.fan.targetStep = 0 ∧ t.fan.stallCount = 0
    ∧ t.fan.state = (if s.fan.state = .stallWait then .stallWait else .off) := by
  have change : s.fanAfterDemand t = { s.fanAfterIgnition t with
      settle := none, targetStep := 0, stallCount := 0
      state := if (s.fanAfterIgnition t).state = .stallLock then .off else (s.fanAfterIgnition t).state } := by
    rw [State.fanAfterDemand_eq]
    exact (if_neg fan).trans (if_pos zero)
  obtain ⟨settle, targetStep, count⟩ := h.choice_eq
  rw [change] at settle targetStep count
  refine ⟨settle, targetStep, count, ?_⟩
  obtain ⟨-, -, same⟩ | ⟨step, followed⟩ := h
  · exact absurd same fan
  · have target : t.fanTarget = 0 := by
      rw [State.fanTarget, targetStep]
      exact Nat.zero_min _
    have state : (s.fanAfterDemand t).state = if s.fan.state = .stallLock then .off else s.fan.state := by
      rw [change, (s.fanAfterIgnition_keeps t).2]
    rw [followed, target, Fan.follow_zero_state _ _ (by rw [state]; split_ifs <;> simp_all), state]
    cases s.fan.state <;> rfl

end State.FanTook

end Sys2Proof.Machine

end

section
/-! SUPPORT. Every cause of a change of FAN and IGN leaves the fan as `State.FanTook` says: the writes of a function's record, the
requests and the edges that lead to them, LIMP entry and LIMP exit (R9 to R20, R77, R162). -/

namespace Sys2Proof.Machine

/-! ### The demand table -/

theorem State.FanTook.refl (s : State) : s.FanTook s := .inl ⟨rfl, rfl, rfl⟩

/-- Neither the relation nor the fan reads an event. -/
theorem State.FanTook.raise {s t : State} (h : s.FanTook t) (e : Event) (detail : Nat) : s.FanTook (t.raise e detail) := h

theorem State.FanTook.raiseIfChanged {s t : State} (h : s.FanTook t) (before : State) (f : Fn) :
    s.FanTook (t.raiseIfChanged before f) := by
  unfold State.raiseIfChanged
  split
  · exact h
  · exact h.raise _ _

/-- The fan has taken the change before the blocks settle, and follows as they do. -/
theorem State.FanTook.of_settledAs {s u t : State} (settled : u.settledAs t) (fan : u.fan = s.fanAfterDemand t) :
    s.FanTook t :=
  .inr ⟨u.settings.fan.rampStep, by rw [← fan]; exact settled.fan⟩

theorem State.sameBeyondFunction.fanTook {s t : State} {f : Fn} (h : s.sameBeyondFunction t f) : s.FanTook t :=
  .of_settledAs h.settled rfl

theorem State.writeFn_fanTook (s : State) (f : Fn) (r : FnRecord) : s.FanTook (s.writeFn f r) :=
  (s.writeFn_same f r).fanTook

theorem State.FanTook.of_withMode {s t : State} {f : Fn} {mode : SourceMode} (h : (s.withMode f mode).FanTook t) :
    s.FanTook t := h

theorem State.FanTook.of_replaceBinding {s t : State} {i : Fin 12} {b : Binding} (h : (s.replaceBinding i b).FanTook t) :
    s.FanTook t := by
  rw [State.replaceBinding_eq] at h
  exact h

theorem State.switchTo_fanTook (s : State) (f : Fn) (value : Nat) : s.FanTook (s.switchTo f value) := by
  obtain ⟨-, e⟩ | ⟨-, linkOnly, free, e⟩ | ⟨-, -, e⟩ := s.switchTo_cases f value <;> rw [e]
  · exact .refl s
  · have same := s.setFn_sameCalls f (movedRecord f (s.behaves f) (s.fn f) value)
      (by rw [movedRecord_of_held f linkOnly free]; rfl)
    exact .inl ⟨rfl, same.eff .ign, same.eff .fan⟩
  · exact s.writeFn_fanTook f _

theorem State.switchByEdge_fanTook (s : State) (f : Fn) (value : Nat) : s.FanTook (s.switchByEdge f value) :=
  (s.switchTo_fanTook f value).raiseIfChanged s f

theorem State.findFor_fanTook (s : State) (f : Option Fn) (value : Fn → Nat) : s.FanTook (s.findFor f value) := by
  cases f
  · exact .refl s
  · exact s.switchTo_fanTook _ _

/-- A debounced edge (R5, R6): the inputs, which it moves first, are not the fan's. -/
theorem State.expireDebounce_fanTook (s : State) (i : Fin 12) : s.FanTook (s.expireDebounce i) := by
  obtain ⟨-, e⟩ | ⟨f, -, -, -, e⟩ | ⟨f, -, -, -, -, e⟩ := s.expireDebounce_cases i <;> rw [e]
  · exact State.FanTook.refl s
  · exact (s.withSettled i).switchByEdge_fanTook f _
  · exact (s.withSettled i).switchByEdge_fanTook f _

theorem State.cancelSide_fanTook (s : State) (side : Side) : s.FanTook (s.cancelSide side) := by
  rw [State.cancelSide_eq]
  exact ((s.writeFn_fanTook _ _).raiseIfChanged s _).raise _ _

theorem State.enterLimp_fanTook (s : State) : s.FanTook s.enterLimp := by
  have settled := s.enterLimp_settled
  generalize s.enterLimp = t at settled ⊢
  exact .of_settledAs settled rfl

theorem State.exitLimp_fanTook (s : State) : s.FanTook s.exitLimp := by
  have settled := s.exitLimp_settled
  generalize s.exitLimp = t at settled ⊢
  exact .of_settledAs settled rfl

/-! ### SET_INPUT on a free input -/

/-- An input that is bound to nothing and whose count has not passed a debounce time (R2, R7). -/
def State.freeWithin (s : State) (i : Fin 12) (debounce : Nat) : Prop :=
  (s.binding i).function = none ∧ (s.input i).count < debounce

/-- A free input bound to a function that has an input already, or to none: its LEVEL evaluation is all that is found. -/
theorem State.bindInput_fanTook {s : State} {i : Fin 12} {b : Binding} (free : s.freeWithin i b.debounce)
    (bound : ∀ g, b.function = some g → isBound s.settings.bindings g = true) (counts : 0 < b.debounce) :
    s.FanTook (s.bindInput i b) := by
  obtain ⟨unbound, within⟩ := free
  let found := (s.replaceBinding i b).findFor (if b.action = .level then b.function else none)
    (s.replaceBinding i b).levelEvaluation
  have left : (s.replaceBinding i b).leaveFunction i (s.binding i) = s.replaceBinding i b := by
    simp [State.leaveFunction, unbound]
  have opened : (b.function.filter fun g => !isBound s.settings.bindings g) = none := by
    simpa [Option.filter_eq_none_iff] using bound
  have joined : (s.replaceBinding i b).joinFunction b (isBound s.settings.bindings) = found := by
    rw [State.joinFunction_eq, opened]
    rfl
  have rested : found.restUnbound (s.binding i) = found := by simp [State.restUnbound, unbound]
  have binding : found.binding i = b := by simp [found, State.binding, State.replaceBinding_eq]
  have count : (found.input i).count < b.debounce := by
    have kept : found.input i = s.reboundInput i b.polarity := by simp [found, State.input, State.replaceBinding_eq]
    rw [kept, State.reboundInput]
    split
    · exact within
    · exact counts
  have settled : found.settleIfDue i = found := if_neg (by rw [binding]; exact Nat.not_le.2 count)
  rw [State.bindInput, left, joined, rested, settled]
  exact ((s.replaceBinding i b).findFor_fanTook _ _).of_replaceBinding

theorem index?_some {n k : Nat} {i : Fin n} (h : index? n k = some i) : i.val = k := by
  unfold index? at h
  split at h
  · rw [← Option.some.inj h]
  · cases h

theorem function?_some {k : Nat} {f : Fn} (h : function? k = some f) : f.idx.val = k := by
  obtain ⟨i, hi, rfl⟩ := Option.map_eq_some_iff.1 h
  rw [Fn.idx_ofIdx, index?_some hi]

theorem orNone?_some {α : Type} {read : Nat → Option α} {k : Nat} {x : α} (h : orNone? read k = some (some x)) :
    read k = some x := by
  unfold orNone? at h
  split at h
  · cases h
  · obtain ⟨y, hy, e⟩ := Option.map_eq_some_iff.1 h
    rw [hy, Option.some.inj e]

/-- The binding SET_INPUT asks for has the function and the debounce time of its fields (R4). -/
theorem bindingOf?_some {function action level polarity debounce : Nat} {b : Binding}
    (h : bindingOf? function action level polarity debounce = some b) :
    (∀ g, b.function = some g → g.idx.val = function) ∧ b.debounce = max 5 (min 200 debounce) := by
  unfold bindingOf? at h
  split at h
  · rename_i hf _ _
    obtain rfl := Option.some.inj h
    exact ⟨fun g hg => function?_some (orNone?_some (hf.trans (congrArg some hg))), rfl⟩
  · cases h

/-! ### The requests -/

/-- The requests that may change FAN or IGN, SET_INPUT only where it binds a free input to a function that has one and
settles nothing. -/
def State.writesFn (s : State) : Instr → Prop
  | .setDemand _ _ => True
  | .setDemandIf _ _ => True
  | .releaseDemand _ => True
  | .setFunction _ _ => True
  | .setInput i f _ _ _ debounce =>
    (∀ j : Fin 12, j.val = i → (s.binding j).function = none ∧ (s.input j).count < max 5 (min 200 debounce))
    ∧ ∀ g : Fn, g.idx.val = f → ∃ j, (s.binding j).function = some g
  | _ => False

theorem State.FanTook.withReservation {s t : State} (h : s.FanTook t) (r : Option Fn) :
    s.FanTook { t with reservation := r } := h

section
variable (s : State)

theorem takeSetDemand_fanTook (function value : Nat) : s.FanTook (takeSetDemand function value s).1 := by
  unfold takeSetDemand
  split
  · exact .refl s
  · split
    · exact .refl s
    · exact s.writeFn_fanTook _ _

theorem takeSetDemandIf_fanTook (function value : Nat) : s.FanTook (takeSetDemandIf function value s).1 := by
  unfold takeSetDemandIf
  split
  · exact .refl s
  · split_ifs
    · exact .refl s
    · exact (s.writeFn_fanTook _ _).withReservation none
    · exact (State.FanTook.refl s).withReservation none

theorem takeReleaseDemand_fanTook (function : Nat) : s.FanTook (takeReleaseDemand function s).1 := by
  unfold takeReleaseDemand
  split
  · exact .refl s
  · split
    · exact .refl s
    · exact s.writeFn_fanTook _ _

theorem takeSetFunction_fanTook (function mode : Nat) : s.FanTook (takeSetFunction function mode s).1 := by
  unfold takeSetFunction
  split
  · exact ((s.withMode _ _).writeFn_fanTook _ _).of_withMode
  · exact .refl s

theorem takeSetInput_fanTook {input function debounce : Nat} (action level polarity : Nat)
    (h : s.writesFn (.setInput input function action level polarity debounce)) :
    s.FanTook (takeSetInput input function action level polarity debounce s).1 := by
  obtain ⟨free, bound⟩ := h
  unfold takeSetInput
  split
  · rename_i i b hi hb
    obtain ⟨numbered, counts⟩ := bindingOf?_some hb
    refine State.bindInput_fanTook (counts ▸ free i (index?_some hi)) (fun g hg => ?_) (by omega)
    obtain ⟨j, hj⟩ := bound g (numbered g hg)
    exact Bool.eq_true_of_not_eq_false fun unbound => (isBound_eq_false s g).1 unbound j hj
  · exact .refl s

end

/-- Each of these requests has a frame and a take, which leaves the fan as the relation says, whatever the link holds. -/
theorem State.writesFn_take {s : State} {command : Instr} (h : s.writesFn command) :
    ∃ frame take, frameOf? command = some frame ∧ takeRequest command = some take
      ∧ ∀ l, s.FanTook (take (s.relinked l)).1 := by
  cases command
  case setDemand f v => exact ⟨_, _, rfl, rfl, fun l => takeSetDemand_fanTook (s.relinked l) f v⟩
  case setDemandIf f v => exact ⟨_, _, rfl, rfl, fun l => takeSetDemandIf_fanTook (s.relinked l) f v⟩
  case releaseDemand f => exact ⟨_, _, rfl, rfl, fun l => takeReleaseDemand_fanTook (s.relinked l) f⟩
  case setFunction f m => exact ⟨_, _, rfl, rfl, fun l => takeSetFunction_fanTook (s.relinked l) f m⟩
  case setInput i f a v p d => exact ⟨_, _, rfl, rfl, fun l => takeSetInput_fanTook (s.relinked l) a v p h⟩
  all_goals exact h.elim

/-! ### Serving -/

/-- A request that arrives in an attentive part (R162, log 3). -/
theorem exec_writesFn_fanTook {s : State} {command : Instr} (ha : s.attentive) (h : s.writesFn command) :
    ∃ t, exec command s = .next t ∧ s.FanTook t := by
  obtain ⟨frame, take, hf, hk, took⟩ := State.writesFn_take h
  refine ⟨_, exec_of_take hf hk s, ?_⟩
  rw [State.serve_attentive s command take frame ha hf]
  exact took _

/-- A pending frame whose request is taken when the served frame's reply has left (R162, log 16). -/
theorem exec_replySent_fanTook {s : State} {command : Instr} {frame reply : Frame} {rest : List Outgoing}
    (hp : s.powered = true) (hr : s.restarting = false) (h : s.writesFn command)
    (sent : s.link.outbox = .reply reply :: rest) (waits : s.link.pendingFrame = some frame)
    (asks : frame.asks = .request command) : ∃ t, exec .replySent s = .next t ∧ s.FanTook t := by
  obtain ⟨-, take, -, hk, took⟩ := State.writesFn_take h
  have taken : takeFrame frame = take := by
    funext u
    simp only [takeFrame, asks, hk]
  refine ⟨s.sendReply, by simp only [exec, execReplySent, State.whenPowered_on _ _ hp], ?_⟩
  have next : s.sendReply = (s.relinked { s.link with outbox := rest }).serveNext := by
    rw [State.sendReply, sent]
    rfl
  have served : (s.relinked { s.link with outbox := rest }).serveNext
      = (s.relinked { s.link with outbox := rest, served := none, pendingFrame := none }).answer frame take
        fillAwaited := by
    simp only [State.serveNext, State.relinked, waits, taken]
    exact if_neg (by simp [hr])
  rw [next, served, State.answer_eq]
  exact took _

/-- HELLO's frame ends LIMP, and its request changes nothing further (R164, R168). -/
theorem exec_hello_fanTook {s : State} (hp : s.powered = true) (hr : s.restarting = false) (hs : s.link.served = none)
    (hl : s.link.limp = true) : ∃ t, exec .hello s = .next t ∧ s.FanTook t := by
  have attentive : s.exitLimp.attentive := by simp [State.attentive, hp, hr, hs]
  have took := s.exitLimp_fanTook
  rw [exec_request_of_limp rfl hp hl]
  generalize s.exitLimp = u at attentive took ⊢
  exact ⟨_, exec_accepted attentive rfl rfl rfl, took⟩

theorem exec_limpEntry_fanTook {s : State} (hp : s.powered = true) :
    ∃ t, exec .limpEntry s = .next t ∧ s.FanTook t := by
  refine ⟨_, by rw [exec, execLimpEntry, State.whenPowered_on _ _ hp], ?_⟩
  split
  · exact .refl s
  · exact s.enterLimp_fanTook

theorem exec_runOnExpiry_fanTook {s : State} (hp : s.powered = true) (side : Side) :
    ∃ t, exec (.runOnExpiry side) s = .next t ∧ s.FanTook t := by
  refine ⟨_, exec_runOnExpiry hp side, ?_⟩
  split
  · exact s.cancelSide_fanTook side
  · exact .refl s

end Sys2Proof.Machine

open Sys2Proof Sys2Proof.Machine

/-- Settles O43: each cause leaves the fan as `State.FanTook` says, and that relation gives each clause. -/
theorem fanTakesItsDemand : Obligations.FanTakesItsDemand := by
  unfold Obligations.FanTakesItsDemand
  intro s hp hr k restarted untouched taken writes
  have clauses : ∀ {u : State}, s.FanTook u → taken u := fun took =>
    ⟨took.untouched, took.ignition, took.turned_on, took.turned_off⟩
  have named : ∀ {command}, writes command → s.writesFn command := fun {command} h => by cases command <;> exact h
  have done : ∀ {command}, (∃ t, exec command s = .next t ∧ s.FanTook t) → ∃ t, exec command s = .next t ∧ taken t :=
    fun ⟨t, ht, took⟩ => ⟨t, ht, clauses took⟩
  refine ⟨fun hs hl => done (exec_hello_fanTook hp hr hs hl), fun command hs hl h => ?_,
    fun command frame reply rest hl h sent waits asks => ?_, fun i => ?_, fun side => ?_, ?_⟩
  · exact done (exec_writesFn_fanTook ⟨hp, hr, hl, hs⟩ (named h))
  · exact done (exec_replySent_fanTook hp hr (named h) sent waits asks)
  · exact done ⟨_, exec_debounceExpiry hp i, s.expireDebounce_fanTook i⟩
  · exact done (exec_runOnExpiry_fanTook hp side)
  · exact done (exec_limpEntry_fanTook hp)

end

section
/-! SUPPORT. The supply watch: when a timer is ripe, a move of the supply state, and the transition of a slot as one equation
(R135, R139 to R145). -/

namespace Sys2Proof.Machine

/-! ### Timers -/

/-- A timer has started and has reached its delay, in ms (R135). -/
abbrev SupplyTimer.Ripe (t : SupplyTimer) (delay : Nat) : Prop :=
  t.started = true ∧ delay ≤ t.seconds * 1000 + t.slots * 10

theorem SupplyTimer.expired_iff (t : SupplyTimer) (delay : Nat) : t.expired delay = true ↔ t.Ripe delay := by
  rw [SupplyTimer.expired, Bool.and_eq_true, decide_eq_true_eq]
  rfl

/-- A timer at a slot, spelled out (R135). -/
theorem SupplyTimer.run_eq (t : SupplyTimer) (condition : Prop) [Decidable condition] :
    t.run (decide condition) =
      if ¬ condition then ⟨false, 0, 0⟩
      else if t.started = false then ⟨true, 0, 0⟩
      else if t.slots = 99 then ⟨true, 0, t.seconds + 1⟩
      else ⟨true, t.slots + 1, t.seconds⟩ := by
  obtain ⟨started, slots, seconds⟩ := t
  by_cases holds : condition
  · cases started <;> simp [SupplyTimer.run, holds]
  · simp [SupplyTimer.run, holds, SupplyTimer.zero]

/-! ### The transition -/

/-- The state that the first transition that applies leads to, or the present one where none does (R140 to R143). -/
def State.nextSupply (s : State) (bat : Nat) : SupplyState :=
  let k := s.settings.supply
  let t := s.supply.timers
  match s.supply.state with
  | .normal => if bat < k.crankEnter then .crank
    else if t.shed.Ripe 2000 then .shed
    else if t.lean.Ripe 10000 ∨ t.budget.Ripe 30000 then .lean
    else .normal
  | .lean => if bat < k.crankEnter then .crank
    else if t.shed.Ripe 2000 then .shed
    else if t.recovery.Ripe 10000 then .normal
    else .lean
  | .shed => if bat < k.crankEnter ∧ s.supply.armed = true then .crank
    else if t.unshed.Ripe 10000 then .lean
    else .shed
  | .crank => if t.crankExit.Ripe 500 then .normal
    else if t.crankLimit.Ripe 10000 then .shed
    else .crank

/-- The timers after a move: all at zero but the shed timer between NORMAL and LEAN (R144). -/
def Supply.timersMoved (x : Supply) (next : SupplyState) : SupplyTimers :=
  { SupplyTimers.zero with
    shed := if (x.state = .normal ∧ next = .lean) ∨ (x.state = .lean ∧ next = .normal) then x.timers.shed else .zero }

theorem State.moveSupply_supply (s : State) (next : SupplyState) (armed : Bool) : (s.moveSupply next armed).supply =
    { s.supply with state := next, armed := armed, timers := s.supply.timersMoved next } := by
  simp [State.moveSupply, Supply.timersMoved]

/-- A move, spelled out: the supply record, SUPPLY_STATE, and the runs that CRANK holds (R56, R130, R144, R145). -/
theorem State.moveSupply_eq (s : State) (next : SupplyState) (armed : Bool) : s.moveSupply next armed =
    { s with
      supply := { s.supply with state := next, armed := armed, timers := s.supply.timersMoved next }
      events := s.events.set Event.supplyState.idx ⟨true, next.code⟩
      channels := vecOfFn fun c =>
        if next = .crank ∨ s.supply.state = .crank then { s.channel c with lowRun := none, highRun := none }
        else s.channel c
      fan := if next = .crank ∨ s.supply.state = .crank then { s.fan with stallRun := none } else s.fan } := by
  simp only [State.moveSupply, Supply.timersMoved, Channel.runsHeld, State.raise, Bool.or_eq_true, Bool.and_eq_true,
    beq_iff_eq, or_comm (a := next = .crank)]

/-- Outside SHED no slot arms CRANK entry (R142). -/
theorem State.rearm_of_ne (s : State) (bat : Nat) (h : s.supply.state ≠ .shed) : s.rearm bat = s := by
  have away : (s.supply.state == .shed) = false := by simpa using h
  rw [State.rearm, away, Bool.false_and, Bool.or_false]

/-- The transition of a slot: none, with CRANK entry armed again where it may be, or the move to the next state (R142,
R144). -/
theorem State.takeTransition_eq (s : State) (bat : Nat) : s.takeTransition bat =
    if s.nextSupply bat = s.supply.state then s.rearm bat
    else s.moveSupply (s.nextSupply bat) (decide (s.supply.state ≠ .crank ∨ s.nextSupply bat = .normal)) := by
  unfold State.takeTransition State.nextSupply
  cases at' : s.supply.state with
  | normal | lean =>
    rw [State.rearm_of_ne s bat (by simp [at'])]
    simp only [decide_eq_true_eq, Bool.or_eq_true, SupplyTimer.expired_iff, shedDelay, leanDelay, budgetDelay,
      recoveryDelay]
    split_ifs <;> simp_all
  | shed =>
    simp only [decide_eq_true_eq, Bool.and_eq_true, SupplyTimer.expired_iff, unshedDelay]
    split_ifs <;> simp_all
  | crank =>
    rw [State.rearm_of_ne s bat (by simp [at'])]
    simp only [SupplyTimer.expired_iff, crankExitDelay, crankLimitDelay]
    split_ifs <;> simp_all

/-- The supply record after the transition of a slot. -/
theorem State.takeTransition_supply (s : State) (bat : Nat) : (s.takeTransition bat).supply =
    { s.supply with
      state := s.nextSupply bat
      armed := if s.nextSupply bat = s.supply.state then
          s.supply.armed || decide (s.nextSupply bat = .shed ∧ s.settings.supply.crankEnter ≤ bat)
        else decide (s.supply.state ≠ .crank ∨ s.nextSupply bat = .normal)
      timers := if s.nextSupply bat = s.supply.state then s.supply.timers
        else s.supply.timersMoved (s.nextSupply bat) } := by
  rw [State.takeTransition_eq]
  by_cases stays : s.nextSupply bat = s.supply.state
  · rw [if_pos stays, if_pos stays, if_pos stays, stays, State.rearm_supply]
    simp [Bool.decide_and, beq_eq_decide]
  · rw [if_neg stays, if_neg stays, if_neg stays, State.moveSupply_supply]

theorem State.takeTransition_supplyState (s : State) (bat : Nat) : (s.takeTransition bat).event .supplyState =
    if s.nextSupply bat = s.supply.state then s.event .supplyState else ⟨true, (s.nextSupply bat).code⟩ := by
  rw [State.takeTransition_eq]
  split
  · rfl
  · exact State.raise_event _ _ _

/-- What a slot's transition leaves beside the supply record: SUPPLY_STATE and the runs that a move into or out of CRANK
holds at zero (R56, R130, R144, R145). -/
theorem State.takeTransition_shape (s : State) (bat : Nat) :
    let t := s.takeTransition bat
    let crank : Prop := t.supply.state ≠ s.supply.state ∧ (t.supply.state = .crank ∨ s.supply.state = .crank)
    t = { s with
      supply := t.supply
      events := s.events.set Event.supplyState.idx (t.event .supplyState)
      channels := vecOfFn fun c =>
        if crank then { s.channel c with lowRun := none, highRun := none } else s.channel c
      fan := if crank then { s.fan with stallRun := none } else s.fan } := by
  intro t crank
  have state : t.supply.state = s.nextSupply bat := by rw [s.takeTransition_supply bat]
  have event := s.takeTransition_supplyState bat
  by_cases stays : s.nextSupply bat = s.supply.state
  · have none : ¬ crank := fun h => h.1 (state.trans stays)
    have same := (s.takeTransition_eq bat).trans (if_pos stays)
    have channels : (vecOfFn fun c => s.channel c) = s.channels := vecOfFn_self s.channels
    have events : s.events.set Event.supplyState.idx (s.event .supplyState) = s.events := by simp [State.event]
    simp only [if_neg none, if_pos stays, channels, events, event, t]
    rw [same]
    rfl
  · have holds : crank ↔ s.nextSupply bat = .crank ∨ s.supply.state = .crank := by
      simp only [crank, state]
      exact and_iff_right stays
    have moved := (s.takeTransition_eq bat).trans (if_neg stays)
    simp only [holds, if_neg stays, event, t]
    rw [moved, State.moveSupply_supply]
    exact State.moveSupply_eq _ _ _

end Sys2Proof.Machine
end

section
/-! SUPPORT. A sample slot as a move of the supply record after which the blocks react, the charge condition among them
(R133 to R147). -/

namespace Sys2Proof.Machine

/-! ### The charge condition's place in the reaction -/

theorem State.chargeFollow_eq (s : State) : s.chargeFollow = { s with
    supply := { s.supply with charge := s.chargeCondition }
    events := if s.chargeCondition = true ∧ s.supply.charge = false then
      s.events.set Event.chargeWarn.idx ⟨true, 0⟩ else s.events } := by
  unfold State.chargeFollow
  cases s.chargeCondition <;> cases s.supply.charge <;> rfl

/-- The flasher's part of the reaction and the charge condition's read and write nothing of each other. -/
theorem State.flasherFollow_chargeFollow (s : State) : s.chargeFollow.flasherFollow = s.flasherFollow.chargeFollow := by
  have side : s.chargeFollow.anySide = s.anySide := State.anySide_congr (State.chargeFollow_functions s)
  have cadence : s.chargeFollow.cadenceFollow = s.cadenceFollow.chargeFollow := by
    simp only [State.cadenceFollow, side, State.chargeFollow_flasher]
    split_ifs
    · rw [State.chargeFollow_eq, State.chargeFollow_eq]
      rfl
    · rfl
    · rw [State.chargeFollow_eq, State.chargeFollow_eq]
      rfl
  rw [State.flasherFollow, State.flasherFollow, cadence, State.chargeFollow_eq, State.chargeFollow_eq]
  rfl

/-- The charge condition reads the functions, the settings and the means alone (R146). -/
theorem State.chargeCondition_congr {s t : State} (hf : t.functions = s.functions) (hs : t.settings = s.settings)
    (hb : t.supply.batMean = s.supply.batMean) (hd : t.supply.dynMean = s.supply.dynMean) :
    t.chargeCondition = s.chargeCondition := by
  simp only [State.chargeCondition, State.eff, State.fn, hf, hs, hb, hd]

/-- A charge condition that has been judged is judged the same again. -/
theorem State.chargeFollow_chargeFollow (s : State) : s.chargeFollow.chargeFollow = s.chargeFollow := by
  have again : s.chargeFollow.chargeCondition = s.chargeCondition := by
    apply State.chargeCondition_congr <;> simp [State.chargeFollow_supply]
  have judged : s.chargeFollow.supply.charge = s.chargeCondition := by rw [State.chargeFollow_supply]
  have quiet : ¬ (s.chargeCondition = true ∧ s.chargeCondition = false) := by simp
  rw [State.chargeFollow_eq s.chargeFollow, again, judged, if_neg quiet, ← judged]

/-- The reaction takes a part whose charge condition has just been judged as it takes the part before that. -/
theorem State.react_chargeFollow (s : State) : s.chargeFollow.react = s.react := by
  rw [State.react, State.flasherFollow_chargeFollow, State.chargeFollow_chargeFollow, State.react]

/-- A slot's transition does not look at the charge condition, which therefore may be judged after it. -/
theorem State.takeTransition_chargeFollow (s : State) (bat : Nat) :
    s.chargeFollow.takeTransition bat = (s.takeTransition bat).chargeFollow := by
  have next : s.chargeFollow.nextSupply bat = s.nextSupply bat := by
    simp only [State.nextSupply, State.chargeFollow_supply, State.chargeFollow_settings]
  have moves : ∀ state armed, s.chargeFollow.moveSupply state armed = (s.moveSupply state armed).chargeFollow := by
    intro state armed
    have condition : (s.moveSupply state armed).chargeCondition = s.chargeCondition :=
      State.chargeCondition_congr rfl rfl rfl rfl
    have apart : Event.chargeWarn.idx.val ≠ Event.supplyState.idx.val := by decide
    rw [State.chargeFollow_eq (s.moveSupply state armed), condition, State.moveSupply_supply, State.chargeFollow_eq s]
    by_cases warns : s.chargeCondition = true ∧ s.supply.charge = false
    · simp only [if_pos warns, State.moveSupply_eq, Vector.set_comm _ _ apart]
      rfl
    · simp only [if_neg warns, State.moveSupply_eq]
      rfl
  rw [State.takeTransition_eq, State.takeTransition_eq, next, State.chargeFollow_supply]
  split_ifs
  · rw [State.chargeFollow_eq, State.chargeFollow_eq]
    rfl
  · exact moves _ _

/-! ### A slot -/

/-- The BAT mean of a slot (R134). -/
def State.slotMean (s : State) (bat : Nat) : Nat := meanOf (pushSample (voltageReading bat) s.supply.batSamples)

/-- The part with a slot's samples taken and its timers run on the charge condition of these samples (R144). -/
def State.slotTimed (s : State) (bat dyn : Nat) : State :=
  let p := s.takeSamples bat dyn
  { p with supply := { p.supply with timers := p.chargeFollow.timersAfter (s.slotMean bat) } }

/-- What a slot moves before the blocks react. -/
def State.slotMoved (s : State) (bat dyn : Nat) : State := (s.slotTimed bat dyn).takeTransition (s.slotMean bat)

theorem State.judgeSlot_eq (s : State) (bat dyn : Nat) : s.judgeSlot bat dyn = (s.slotMoved bat dyn).chargeFollow := by
  have mean : (s.takeSamples bat dyn).chargeFollow.supply.batMean.getD 0 = s.slotMean bat := by
    rw [State.chargeFollow_supply]
    rfl
  have timed : (s.takeSamples bat dyn).chargeFollow.runTimers (s.slotMean bat)
      = (s.slotTimed bat dyn).chargeFollow := by
    rw [State.chargeFollow_eq (s.slotTimed bat dyn), State.runTimers, State.slotTimed, State.chargeFollow_eq]
    rfl
  rw [State.judgeSlot, mean, timed, State.takeTransition_chargeFollow]
  rfl

theorem exec_sampleSlot {s : State} (h : s.powered = true) (bat dyn : Nat) :
    exec (.sampleSlot bat dyn) s = .next (s.slotMoved bat dyn).react := by
  rw [← State.react_chargeFollow, ← State.judgeSlot_eq]
  exact congrArg _ (s.whenPowered_on _ h)

/-- The supply record that a slot leaves, the charge condition judged on its means (R134, R136, R144, R146, R147). -/
theorem State.slotMoved_react_supply (s : State) (bat dyn : Nat) : (s.slotMoved bat dyn).react.supply =
    { (s.slotMoved bat dyn).supply with charge := (s.takeSamples bat dyn).chargeCondition } := by
  have condition : (s.slotMoved bat dyn).flasherFollow.chargeCondition = (s.takeSamples bat dyn).chargeCondition := by
    apply State.chargeCondition_congr <;> simp [State.slotMoved, State.slotTimed, State.takeTransition_supply]
  rw [State.react_supply, condition]

theorem State.slotMoved_supply (s : State) (bat dyn : Nat) : (s.slotMoved bat dyn).supply =
    { (s.takeSamples bat dyn).supply with
      state := (s.slotMoved bat dyn).supply.state
      armed := (s.slotMoved bat dyn).supply.armed
      timers := (s.slotMoved bat dyn).supply.timers } := by
  rw [State.slotMoved, State.takeTransition_supply]
  rfl

/-- What a slot leaves in the supply record, beside what its transition moves, is its samples (R134, R136, R147). -/
theorem State.slot_supply (s : State) (bat dyn : Nat) : (s.slotMoved bat dyn).react.supply =
    { (s.takeSamples bat dyn).supply with
      state := (s.slotMoved bat dyn).supply.state
      armed := (s.slotMoved bat dyn).supply.armed
      timers := (s.slotMoved bat dyn).supply.timers
      charge := (s.takeSamples bat dyn).chargeCondition } := by
  rw [State.slotMoved_react_supply, State.slotMoved_supply]

/-- What settles from a state settles from it under another name. -/
theorem State.settledAs.of_eq {s u t : State} (h : u.settledAs t) (e : s = u) : s.settledAs t := e ▸ h

theorem State.slotMoved_supplyState (s : State) (bat dyn : Nat) :
    (s.slotMoved bat dyn).react.event .supplyState = (s.slotMoved bat dyn).event .supplyState :=
  State.react_event _ _ (by decide) (by decide)

/-- The state that a slot leads to (R144). -/
def State.slotNext (s : State) (bat dyn : Nat) : SupplyState := (s.slotTimed bat dyn).nextSupply (s.slotMean bat)

theorem State.slot_state (s : State) (bat dyn : Nat) :
    (s.slotMoved bat dyn).react.supply.state = s.slotNext bat dyn := by
  rw [State.slot_supply, State.slotMoved, State.takeTransition_supply]
  rfl

theorem State.slot_supplyState (s : State) (bat dyn : Nat) : (s.slotMoved bat dyn).react.event .supplyState =
    if s.slotNext bat dyn = s.supply.state then s.event .supplyState else ⟨true, (s.slotNext bat dyn).code⟩ := by
  rw [State.slotMoved_supplyState, State.slotMoved, State.takeTransition_supplyState]
  rfl

theorem State.slot_armed (s : State) (bat dyn : Nat) : (s.slotMoved bat dyn).react.supply.armed =
    if s.slotNext bat dyn = s.supply.state then
      s.supply.armed || decide (s.slotNext bat dyn = .shed ∧ s.settings.supply.crankEnter ≤ s.slotMean bat)
    else decide (s.supply.state ≠ .crank ∨ s.slotNext bat dyn = .normal) := by
  rw [State.slot_supply, State.slotMoved, State.takeTransition_supply]
  rfl

theorem State.slot_timers (s : State) (bat dyn : Nat) : (s.slotMoved bat dyn).react.supply.timers =
    if s.slotNext bat dyn = s.supply.state then (s.slotTimed bat dyn).supply.timers
    else (s.slotTimed bat dyn).supply.timersMoved (s.slotNext bat dyn) := by
  rw [State.slot_supply, State.slotMoved, State.takeTransition_supply]
  rfl

/-- A supply timer that has started in its state takes its transition, and the blocks react (log 23). -/
theorem State.expireTimer_ripe {s : State} (hp : s.powered = true) {runsIn : Bool} {timer : SupplyTimer}
    (runs : runsIn = true) (started : timer.started = true) (next : SupplyState) (armed : Bool) :
    s.expireTimer runsIn timer next armed = (s.moveSupply next armed).react := by
  rw [State.expireTimer, State.whenPowered_on _ _ hp, if_pos (by rw [runs, started, Bool.and_self])]

theorem State.expireTimer_idle {s : State} (hp : s.powered = true) {runsIn : Bool} {timer : SupplyTimer}
    (idle : runsIn = false ∨ timer.started = false) (next : SupplyState) (armed : Bool) :
    s.expireTimer runsIn timer next armed = s := by
  rw [State.expireTimer, State.whenPowered_on _ _ hp, if_neg (by rwa [Bool.and_eq_true, not_and_or, Bool.not_eq_true,
    Bool.not_eq_true])]

/-- The sum of a vector's figures, entry by entry. -/
theorem sum_vector {α : Type} {n : Nat} (v : Vector α n) (f : α → Nat) :
    (v.toList.map f).sum = ((List.finRange n).map fun i => f v[i]).sum := by
  have entries : v.toList.map f = List.ofFn fun i => f v[i] := List.ext_getElem (by simp) (by simp)
  rw [entries, List.ofFn_eq_map]

theorem State.loadNow_eq (s : State) : s.loadNow = ((List.finRange 16).map fun c => (s.channel c).current).sum
    + s.fan.current + ((List.finRange 4).map fun g => if (s.gauge g).driver = .waiting ∨ (s.gauge g).duty = 0 then 0
      else (s.gauge g).driverSample).sum := by
  rw [State.loadNow, sum_vector, sum_vector]
  rfl

/-- The total load is above a budget that is in force (R140). -/
theorem State.overBudget_iff (s : State) : s.overBudget = true ↔ s.settings.supply.budget ≠ 0 ∧ s.eff .ign = 1
    ∧ s.settings.supply.budget < s.supply.totalLoad := by
  simp [State.overBudget, and_assoc]

/-- The samples of a slot are at least one. -/
theorem pushSample_length_pos (sample : Nat) (samples : List Nat) : 0 < (pushSample sample samples).length := by
  simp [pushSample]

/-- The mean of a slot's samples, to the nearest whole number, an exact half up (R134). -/
theorem meanOf_nearest (samples : List Nat) (h : 0 < samples.length) :
    2 * samples.length * meanOf samples ≤ 2 * samples.sum + samples.length
    ∧ 2 * samples.sum + samples.length < 2 * samples.length * (meanOf samples + 1) :=
  roundHalfUp_nearest _ _ h

end Sys2Proof.Machine

open Sys2Proof Sys2Proof.Machine

/-- Settles O48: a slot is one change of the supply record and of what CRANK holds, after which the blocks react. -/
theorem slotTakesSamplesAndMeans : Obligations.SlotTakesSamplesAndMeans := by
  unfold Obligations.SlotTakesSamplesAndMeans
  intro s bat dyn hp
  have supply := s.slot_supply bat dyn
  refine ⟨_, exec_sampleSlot hp bat dyn, ?_, ?_, fun mean hm => ?_, fun mean hm => ?_, ?_, ?_, ?_, ?_⟩
  · rw [supply]; rfl
  · rw [supply]; rfl
  · rw [supply] at hm ⊢
    obtain rfl := Option.some.inj hm
    obtain ⟨low, high⟩ := meanOf_nearest _ (pushSample_length_pos (voltageReading bat) s.supply.batSamples)
    exact ⟨low, high, rfl, rfl⟩
  · rw [supply] at hm ⊢
    obtain rfl := Option.some.inj hm
    exact meanOf_nearest _ (pushSample_length_pos _ _)
  · rw [supply]; exact Option.some_ne_none _
  · rw [supply]; exact Option.some_ne_none _
  · rw [supply]; exact s.loadNow_eq
  · refine (s.slotMoved bat dyn).react_settled.of_eq ?_
    have kept : (s.slotMoved bat dyn).supply.charge = s.supply.charge := by
      rw [State.slotMoved_supply]
      rfl
    rw [State.slotMoved_supplyState, State.slotMoved_react_supply, ← kept]
    exact ((s.slotTimed bat dyn).takeTransition_shape (s.slotMean bat)).symm

/-- Settles O49: the transition of a slot is `State.nextSupply`, taken on the timers as they have run. -/
theorem slotTakesOneTransition : Obligations.SlotTakesOneTransition := by
  unfold Obligations.SlotTakesOneTransition
  intro s bat dyn hp
  refine ⟨_, exec_sampleSlot hp bat dyn, ?_⟩
  intro mean hm k was heavy run ripe ran next _
  have supply := s.slot_supply bat dyn
  obtain rfl : s.slotMean bat = mean := by
    rw [supply] at hm
    exact Option.some.inj hm
  have timed : (s.slotTimed bat dyn).supply.timers = ran := by
    have load : (s.slotMoved bat dyn).react.supply.totalLoad = s.loadNow := by rw [supply]; rfl
    have charge : (s.slotMoved bat dyn).react.supply.charge = (s.takeSamples bat dyn).chargeFollow.supply.charge := by
      rw [supply, State.chargeFollow_supply]
    have overload : (s.takeSamples bat dyn).chargeFollow.overBudget = decide heavy := by
      rw [Bool.eq_iff_iff, State.overBudget_iff, decide_eq_true_iff]
      simp only [heavy, load]
      rw [State.chargeFollow_eq]
      rfl
    have spelled : ∀ timer condition [Decidable condition], run timer condition = timer.run (decide condition) :=
      fun timer condition _ => (timer.run_eq condition).symm
    have after : (s.slotTimed bat dyn).supply.timers
      = (s.takeSamples bat dyn).chargeFollow.timersAfter (s.slotMean bat) := rfl
    rw [after, State.timersAfter, overload]
    simp only [ran, spelled, charge, Bool.decide_and, Bool.decide_eq_true, decide_not, decide_true]
    rw [State.chargeFollow_eq]
    rfl
  have state : s.slotNext bat dyn = next := by
    simp only [State.slotNext, State.nextSupply, timed]
    rfl
  rw [State.slot_state, State.slot_timers, State.slot_supplyState, State.slot_armed, state]
  refine ⟨rfl, fun stays => ?_, fun moves => ?_⟩
  · rw [if_pos stays, if_pos stays, if_pos stays]
    exact ⟨timed, rfl, rfl⟩
  · rw [if_neg moves, if_neg moves, if_neg moves, Supply.timersMoved, timed]
    exact ⟨rfl, rfl, rfl⟩

/-- Settles O50: a timer that has started in its state is one move of the supply state, after which the blocks react. -/
theorem timerExpiriesMoveTheSupply : Obligations.TimerExpiriesMoveTheSupply := by
  unfold Obligations.TimerExpiriesMoveTheSupply
  intro s hp at' timers moves
  have expiry : ∀ {command : Instr} {runsIn : Prop} {runs : Bool} {timer : SupplyTimer} {next : SupplyState} {armed},
      exec command s = .next (s.expireTimer runs timer next armed) → (runs = true ↔ runsIn) → next ≠ .crank →
      moves command runsIn timer next armed := by
    intro command runsIn runs timer next armed taken holds away
    have moved := s.moveSupply_eq next armed
    simp only [or_iff_right away] at moved
    refine ⟨fun here started => ⟨_, taken, ?_⟩, fun idle => taken.trans (congrArg _ ?_)⟩
    · rw [State.expireTimer_ripe hp (holds.2 here) started, moved]
      exact State.react_settled _
    · exact State.expireTimer_idle hp (idle.imp_left fun h => Bool.not_eq_true _ ▸ holds.not.2 h) _ _
  refine ⟨expiry rfl beq_iff_eq nofun, expiry rfl beq_iff_eq nofun, expiry rfl beq_iff_eq nofun, expiry rfl ?_ nofun,
    expiry rfl beq_iff_eq nofun, expiry rfl beq_iff_eq nofun, expiry rfl beq_iff_eq nofun⟩
  rw [Bool.or_eq_true, beq_iff_eq, beq_iff_eq]

end

section
/-! SUPPORT. SET_SUPPLY: what its take accepts and refuses (R137, R138). -/

namespace Sys2Proof.Machine

@[simp] theorem systemClass?_code (cls : SystemClass) : systemClass? cls.code = some cls := by cases cls <;> rfl

theorem SupplyConfig.ordered_iff (k : SupplyConfig) :
    k.ordered = true ↔ k.shed < k.lean ∧ k.crankEnter < k.crankExit := by
  rw [SupplyConfig.ordered, Bool.and_eq_true, decide_eq_true_eq, decide_eq_true_eq]

theorem takeSetSupply_accepts {cls : SystemClass} {lean shed enter exit hysteresis margin minimum budget : Nat}
    (h : (supplyConfigOf cls lean shed enter exit hysteresis margin minimum budget).ordered = true) (s : State) :
    let k := supplyConfigOf cls lean shed enter exit hysteresis margin minimum budget
    takeSetSupply cls.code lean shed enter exit hysteresis margin minimum budget s
      = accept ({ s with settings := { s.settings with supply := k } } : State).react (supplyConfigBytes k) := by
  rw [takeSetSupply, systemClass?_code]
  exact if_pos h

theorem takeSetSupply_refuses {cls : SystemClass} {lean shed enter exit hysteresis margin minimum budget : Nat}
    (h : (supplyConfigOf cls lean shed enter exit hysteresis margin minimum budget).ordered = false) (s : State) :
    takeSetSupply cls.code lean shed enter exit hysteresis margin minimum budget s = (s, u8 0x04) := by
  rw [takeSetSupply, systemClass?_code]
  exact if_neg (Bool.not_eq_true _ ▸ h)

end Sys2Proof.Machine

open Sys2Proof Sys2Proof.Machine

/-- Settles O47: SET_SUPPLY's take is one change of the working copy and the blocks' reaction, or a refusal. -/
theorem supplySettingsAreOrdered : Obligations.SupplySettingsAreOrdered := by
  unfold Obligations.SupplySettingsAreOrdered
  intro s cls lean shed enter exit hysteresis margin minimum budget ha taken k command frame
  have config : supplyConfigOf cls lean shed enter exit hysteresis margin minimum budget = k := by
    cases cls <;> rfl
  have named : k.cls = cls := by cases cls <;> rfl
  refine ⟨fun leaner earlier => ?_, fun disordered => ?_⟩
  · have ordered := config ▸ k.ordered_iff.2 ⟨leaner, earlier⟩
    have settles := exec_settles (i := command) (frame := frame) ha rfl rfl
      (takeSetSupply_accepts ordered (s.heard frame))
    rw [config, supplyConfigBytes, named] at settles
    exact settles
  · have unordered : (supplyConfigOf cls lean shed enter exit hysteresis margin minimum budget).ordered = false := by
      rw [config, ← Bool.not_eq_true, SupplyConfig.ordered_iff]
      omega
    exact exec_answered ha rfl rfl (takeSetSupply_refuses unordered (s.heard frame))

end

section
/-! SUPPORT. The held part: what the loss of power leaves, and that no command but a reset and a pin's movement acts on
it (R149, R151, log 10). -/

namespace Sys2Proof.Machine

theorem exec_powerLoss {s : State} (hp : s.powered = true) : exec .powerLoss s = .next s.hold :=
  congrArg _ (s.whenPowered_on _ hp)

theorem State.hold_dutyNow (s : State) (c : Fin 16) : s.hold.dutyNow c = 0 := by
  have off : s.hold.channel c = startChannel := s.startUp_channel 0 c
  rw [State.dutyNow, off]
  rfl

theorem State.hold_gauge (s : State) (g : Fin 4) : s.hold.gauge g = startGauge := s.startUp_gauge 0 g

theorem State.hold_contact (s : State) (i : Fin 12) : (s.hold.input i).contact = (s.input i).contact := by
  have fresh : s.hold.input i = startInput (s.input i).contact := s.startUp_input 0 i
  rw [fresh]
  rfl

/-- A held part serves no request, and no command that is no request acts on it but POWER_ON_RESET and a pin's movement
(log 10). -/
theorem exec_held {s : State} (h : s.powered = false) {i : Instr} (hr : i ≠ .powerOnReset)
    (hm : ∀ n contact, i ≠ .switchRawChange n contact) : exec i s = .next s := by
  have deaf : ∀ k, Host.Outcome.next (s.whenPowered k) = (.next s : Host.Outcome State Fault Refusal) := fun k =>
    congrArg _ (s.whenPowered_off k h)
  cases hf : frameOf? i with
  | some frame =>
    obtain ⟨take, -, he⟩ := exec_request i frame hf
    exact (he s).trans (deaf _)
  | none =>
    cases i <;> simp only [frameOf?, reduceCtorEq] at hf
    case powerOnReset => exact absurd rfl hr
    case switchRawChange n contact => exact absurd rfl (hm n contact)
    all_goals exact deaf _

end Sys2Proof.Machine

open Sys2Proof Sys2Proof.Machine

/-- Settles O6: POWER_LOSS is `State.hold`, read off block by block; every other command asks for power first. -/
theorem powerLossHoldsThePart : Obligations.PowerLossHoldsThePart := by
  unfold Obligations.PowerLossHoldsThePart
  refine ⟨fun s hp => ⟨_, exec_powerLoss hp, rfl, s.hold_dutyNow, rfl, fun g => ?_, rfl, rfl, rfl, s.hold_contact, rfl⟩,
    fun s c held reset moved => exec_held held reset moved⟩
  rw [State.hold_gauge]
  rfl

/-- Settles O55: the part right after reset is one closed state, on which each invariant is evaluated. -/
theorem resetMeetsTheInvariants : Obligations.ResetMeetsTheInvariants := by
  unfold Obligations.ResetMeetsTheInvariants
  have ⟨evaluated, values⟩ : State.reset.Evaluated ∧ State.reset.ValuesInRange := by decide
  have fan : State.reset.FanInStep := ⟨rfl, rfl⟩
  have counted : State.reset.LockOffCounted := by decide
  have ⟨calls, conditions⟩ : State.reset.CallsFollowed ∧ State.reset.ConditionsFollowed := by decide
  have ⟨tables, gauges⟩ : State.reset.TablesFit ∧ State.reset.GaugesInRange := by decide
  have flight : State.reset.FlightUnmarked := ⟨nofun, fun _ => rfl⟩
  have ⟨supply, link⟩ : State.reset.SupplyInOrder ∧ State.reset.LinkInOrder := by decide
  exact ⟨evaluated, fan, counted, calls, conditions, tables, gauges, flight, supply, values, link⟩

end

section
/-! SUPPORT. The order of the supply record and of the link's places: what a slot and a move of the supply state make of it,
and that the blocks' reaction and the demand table keep it (R134, R135, R142, R161, R162, R165). -/

namespace Sys2Proof.Machine

/-! ### The supply record's order -/

/-- Every timer is at zero outside the states it runs in, and its slot count is below 100 (the table of R135). -/
def SupplyTimers.InOrder (t : SupplyTimers) (state : SupplyState) : Prop :=
  (state ≠ .normal → t.lean = .zero ∧ t.budget = .zero)
  ∧ (state ≠ .lean → t.recovery = .zero)
  ∧ (state ≠ .normal ∧ state ≠ .lean → t.shed = .zero)
  ∧ (state ≠ .shed → t.unshed = .zero)
  ∧ (state ≠ .crank → t.crankExit = .zero ∧ t.crankLimit = .zero)
  ∧ ∀ timer ∈ [t.lean, t.budget, t.recovery, t.shed, t.unshed, t.crankExit, t.crankLimit], timer.slots < 100

/-- The means are those of the samples, which are at most eight (R134). -/
def Supply.MeansOfSamples (x : Supply) : Prop :=
  x.batSamples.length ≤ 8 ∧ x.dynSamples.length ≤ 8
  ∧ x.batMean = (if x.batSamples = [] then none else some (meanOf x.batSamples))
  ∧ x.dynMean = (if x.dynSamples = [] then none else some (meanOf x.dynSamples))

theorem State.supplyInOrder_iff (s : State) : s.SupplyInOrder ↔ (s.supply.state ≠ .shed → s.supply.armed = true)
    ∧ s.supply.timers.InOrder s.supply.state ∧ s.supply.MeansOfSamples := by
  simp only [State.SupplyInOrder, SupplyTimers.InOrder, Supply.MeansOfSamples, and_assoc]

/-- A step from one state to another keeps the supply record and the link's places in order. -/
structure State.KeepsOrder (s t : State) : Prop where
  supply : s.SupplyInOrder → t.SupplyInOrder := by exact id
  link : s.LinkInOrder → t.LinkInOrder := by exact id

theorem State.KeepsOrder.refl (s : State) : s.KeepsOrder s := {}

theorem State.KeepsOrder.trans {s t u : State} (h : s.KeepsOrder t) (k : t.KeepsOrder u) : s.KeepsOrder u :=
  ⟨k.supply ∘ h.supply, k.link ∘ h.link⟩

/-- Where the supply record but for the charge condition, the link and the restart to come are as they were, so is their
order. -/
theorem State.keepsOrder_of_charge {s t : State} (charge : Bool)
    (supply : t.supply = { s.supply with charge := charge }) (link : t.link = s.link)
    (restarting : t.restarting = s.restarting) : s.KeepsOrder t where
  supply := by
    rw [State.supplyInOrder_iff, State.supplyInOrder_iff, supply]
    exact id
  link := by
    unfold State.LinkInOrder
    rw [link, restarting]
    exact id

theorem State.keepsOrder_of_same {s t : State} (supply : t.supply = s.supply) (link : t.link = s.link)
    (restarting : t.restarting = s.restarting) : s.KeepsOrder t :=
  State.keepsOrder_of_charge s.supply.charge supply link restarting

/-! ### The slot and the moves of the supply state -/

/-- A timer's slot count stays below 100 (R135). -/
theorem SupplyTimer.run_slots {t : SupplyTimer} (h : t.slots < 100) (condition : Bool) :
    (t.run condition).slots < 100 := by
  unfold SupplyTimer.run
  split_ifs
  · exact Nat.zero_lt_succ _
  · exact Nat.zero_lt_succ _
  · exact Nat.zero_lt_succ _
  · dsimp only
    omega

theorem SupplyTimers.zero_inOrder (state : SupplyState) : SupplyTimers.zero.InOrder state := by
  simp [SupplyTimers.InOrder, SupplyTimers.zero, SupplyTimer.zero]

theorem State.timersAfter_inOrder {s : State} (h : s.supply.timers.InOrder s.supply.state) (bat : Nat) :
    (s.timersAfter bat).InOrder s.supply.state := by
  obtain ⟨-, -, -, -, -, slots⟩ := h
  simp only [List.forall_mem_cons, List.not_mem_nil, false_implies, implies_true, and_true] at slots
  obtain ⟨lean, budget, recovery, shed, unshed, crankExit, crankLimit⟩ := slots
  unfold State.timersAfter SupplyTimers.InOrder
  cases s.supply.state <;> simp [SupplyTimers.zero, SupplyTimer.zero, SupplyTimer.run_slots, *]

/-- After a move only the shed timer may run on, and only between NORMAL and LEAN, in both of which it runs (R135,
R144). -/
theorem Supply.timersMoved_inOrder {x : Supply} (h : x.timers.InOrder x.state) (next : SupplyState) :
    (x.timersMoved next).InOrder next := by
  obtain ⟨-, -, -, -, -, slots⟩ := h
  have shed : x.timers.shed.slots < 100 := slots _ (by simp)
  unfold Supply.timersMoved
  split_ifs with keeps
  · have runs : next = .normal ∨ next = .lean := keeps.symm.imp And.right And.right
    simp only [SupplyTimers.InOrder]
    obtain rfl | rfl := runs <;> simp [SupplyTimers.zero, SupplyTimer.zero, shed]
  · exact SupplyTimers.zero_inOrder next

/-- A move of the supply state that arms CRANK entry, or leads to SHED (R142). -/
theorem State.moveSupply_keepsOrder (s : State) {next : SupplyState} {armed : Bool} (h : next ≠ .shed → armed = true) :
    s.KeepsOrder (s.moveSupply next armed) where
  supply hs := by
    obtain ⟨-, timers, means⟩ := s.supplyInOrder_iff.1 hs
    rw [State.supplyInOrder_iff, State.moveSupply_supply]
    exact ⟨h, Supply.timersMoved_inOrder timers next, means⟩

theorem State.rearm_keepsOrder (s : State) (bat : Nat) : s.KeepsOrder (s.rearm bat) where
  supply hs := by
    obtain ⟨armed, rest⟩ := s.supplyInOrder_iff.1 hs
    refine (State.supplyInOrder_iff _).2 ⟨fun away => ?_, rest⟩
    rw [State.rearm_supply]
    exact Bool.or_eq_true_iff.2 (.inl (armed away))

/-- CRANK is left for NORMAL or, by its limit, for SHED (R143). -/
theorem State.nextSupply_of_crank {s : State} (h : s.supply.state = .crank) (bat : Nat) :
    s.nextSupply bat = .normal ∨ s.nextSupply bat = .shed ∨ s.nextSupply bat = .crank := by
  rw [State.nextSupply, h]
  dsimp only
  split_ifs <;> simp

/-- Of the transitions, only CRANK's limit leaves CRANK entry unarmed, and it leads to SHED (R142, R143). -/
theorem State.takeTransition_keepsOrder (s : State) (bat : Nat) : s.KeepsOrder (s.takeTransition bat) := by
  rw [State.takeTransition_eq]
  split_ifs with stays
  · exact s.rearm_keepsOrder bat
  · refine s.moveSupply_keepsOrder fun away => decide_eq_true_iff.2 ?_
    by_cases crank : s.supply.state = .crank
    · obtain normal | shed | still := State.nextSupply_of_crank crank bat
      · exact .inr normal
      · exact absurd shed away
      · exact absurd (still.trans crank.symm) stays
    · exact .inl crank

theorem State.takeSamples_keepsOrder (s : State) (bat dyn : Nat) : s.KeepsOrder (s.takeSamples bat dyn) where
  supply hs := by
    obtain ⟨armed, timers, -⟩ := s.supplyInOrder_iff.1 hs
    have few : ∀ x l, (pushSample x l).length ≤ 8 := fun x l => List.length_take_le _ _
    have taken : ∀ x l, (if pushSample x l = [] then none else some (meanOf (pushSample x l)))
        = some (meanOf (pushSample x l)) := fun x l => if_neg (List.ne_nil_of_length_pos (pushSample_length_pos x l))
    exact (State.supplyInOrder_iff _).2 ⟨armed, timers, few _ _, few _ _, (taken _ _).symm, (taken _ _).symm⟩

theorem State.chargeFollow_keepsOrder (s : State) : s.KeepsOrder s.chargeFollow :=
  State.keepsOrder_of_charge _ s.chargeFollow_supply s.chargeFollow_link s.chargeFollow_restarting

theorem State.runTimers_keepsOrder (s : State) (bat : Nat) : s.KeepsOrder (s.runTimers bat) where
  supply hs := by
    obtain ⟨armed, timers, means⟩ := s.supplyInOrder_iff.1 hs
    exact (State.supplyInOrder_iff _).2 ⟨armed, State.timersAfter_inOrder timers bat, means⟩

theorem State.judgeSlot_keepsOrder (s : State) (bat dyn : Nat) : s.KeepsOrder (s.judgeSlot bat dyn) :=
  (((s.takeSamples_keepsOrder bat dyn).trans (State.chargeFollow_keepsOrder _)).trans
    (State.runTimers_keepsOrder _ _)).trans (State.takeTransition_keepsOrder _ _)

/-! ### The reaction and the demand table -/

/-- The reaction changes of the supply record the charge condition alone, and nothing of the link. -/
theorem State.react_keepsOrder (s : State) : s.KeepsOrder s.react :=
  State.keepsOrder_of_charge _ s.react_supply s.react_link s.react_restarting

theorem State.KeepsOrder.react {s t : State} (h : s.KeepsOrder t) : s.KeepsOrder t.react := h.trans t.react_keepsOrder

theorem State.reactFrom_keepsOrder (s before : State) : s.KeepsOrder (s.reactFrom before) :=
  (State.keepsOrder_of_same (by simp) (by simp) (by simp) : s.KeepsOrder (s.fanOnDemand before)).react

theorem State.writeFn_keepsOrder (s : State) (f : Fn) (r : FnRecord) : s.KeepsOrder (s.writeFn f r) := by
  have put : s.KeepsOrder ((s.clearReservation f).setFn f r) := {}
  exact put.trans (State.reactFrom_keepsOrder _ s)

theorem State.switchTo_keepsOrder (s : State) (f : Fn) (value : Nat) : s.KeepsOrder (s.switchTo f value) := by
  obtain ⟨-, h⟩ | ⟨-, -, -, h⟩ | ⟨-, -, h⟩ := s.switchTo_cases f value <;> rw [h]
  · exact .refl s
  · exact {}
  · exact s.writeFn_keepsOrder _ _

theorem State.raiseIfChanged_keepsOrder (s before : State) (f : Fn) : s.KeepsOrder (s.raiseIfChanged before f) :=
  State.keepsOrder_of_same (by simp) (by simp) (by simp)

theorem State.switchByEdge_keepsOrder (s : State) (f : Fn) (value : Nat) : s.KeepsOrder (s.switchByEdge f value) :=
  (s.switchTo_keepsOrder f value).trans (State.raiseIfChanged_keepsOrder _ _ _)

theorem State.setInput_keepsOrder (s : State) (i : Fin 12) (x : Input) : s.KeepsOrder (s.setInput i x) := {}

theorem State.debounceTo_keepsOrder (s : State) (i : Fin 12) (value : Debounced) :
    s.KeepsOrder (s.debounceTo i value) := by
  have put := s.setInput_keepsOrder i { s.input i with debounced := value }
  obtain ⟨-, h⟩ | ⟨-, -, h⟩ | ⟨f, -, -, -, h⟩ | ⟨f, -, -, -, -, h⟩ := s.debounceTo_cases i value <;> rw [h]
  · exact .refl s
  · exact put
  · exact put.trans (State.switchByEdge_keepsOrder _ _ _)
  · exact put.trans (State.switchByEdge_keepsOrder _ _ _)

theorem State.findFor_keepsOrder (s : State) (f : Option Fn) (value : Fn → Nat) :
    s.KeepsOrder (s.findFor f value) := by
  cases f with
  | none => exact .refl s
  | some f => exact s.switchTo_keepsOrder f _

/-- SET_INPUT's steps are findings of switch values after the binding's replacement, and the settling (R7). -/
theorem State.bindInput_keepsOrder (s : State) (i : Fin 12) (b : Binding) : s.KeepsOrder (s.bindInput i b) := by
  have settled : ∀ u : State, u.KeepsOrder (u.settleIfDue i) := fun u => by
    unfold State.settleIfDue
    split
    · exact u.debounceTo_keepsOrder _ _
    · exact .refl u
  have replaced : s.KeepsOrder (s.replaceBinding i b) := by
    rw [State.replaceBinding_eq]
    exact {}
  unfold State.bindInput
  rw [State.leaveFunction_eq, State.joinFunction_eq, State.restUnbound_eq]
  exact ((((replaced.trans (State.findFor_keepsOrder _ _ _)).trans (State.findFor_keepsOrder _ _ _)).trans
    (State.findFor_keepsOrder _ _ _)).trans (State.findFor_keepsOrder _ _ _)).trans (settled _)

theorem State.cancelSide_keepsOrder (s : State) (side : Side) : s.KeepsOrder (s.cancelSide side) := by
  have raised : ∀ (u : State) detail, u.KeepsOrder (u.raise .indTimeout detail) := fun _ _ => {}
  exact ((s.writeFn_keepsOrder _ _).trans (State.raiseIfChanged_keepsOrder _ _ _)).trans (raised _ _)

theorem State.expireIfDue_keepsOrder (s : State) (side : Side) : s.KeepsOrder (s.expireIfDue side) := by
  unfold State.expireIfDue
  repeat' split
  · exact s.cancelSide_keepsOrder side
  · exact .refl s
  · exact .refl s

theorem State.raiseDemandChanges_keepsOrder (s before : State) : s.KeepsOrder (s.raiseDemandChanges before) := by
  rw [State.raiseDemandChanges_eq]
  exact {}

theorem State.enterLimp_keepsOrder (s : State) : s.KeepsOrder s.enterLimp := by
  have entered : s.KeepsOrder s.limpEntered := {}
  exact (entered.trans (State.raiseDemandChanges_keepsOrder _ s)).trans (State.reactFrom_keepsOrder _ s)

theorem State.exitLimp_keepsOrder (s : State) : s.KeepsOrder s.exitLimp := by
  have left : s.KeepsOrder s.limpLeft := {}
  exact (left.trans (State.raiseDemandChanges_keepsOrder _ s)).trans (State.reactFrom_keepsOrder _ s)

end Sys2Proof.Machine
end

section
/-! SUPPORT. The requests and the frames: what taking, answering, holding and sending make of the order of the supply record
and of the link's places (R134, R161 to R163, R165, logs 15 and 16). -/

namespace Sys2Proof.Machine

/-! ### Taking a request -/

theorem State.setChannel_keepsOrder (s : State) (c : Fin 16) (x : Channel) : s.KeepsOrder (s.setChannel c x) := {}

theorem State.startProgramming_keepsOrder (s : State) (image : Image) : s.KeepsOrder (s.startProgramming image) :=
  State.keepsOrder_of_same (by simp) (by simp) (by simp)

theorem State.changeFlasher_keepsOrder (s : State) (rate limit : Nat) : s.KeepsOrder (s.changeFlasher rate limit) := by
  have set : s.KeepsOrder { s with settings := { s.settings with flashRate := rate, runOnLimit := limit } } := {}
  exact (set.react.trans (State.expireIfDue_keepsOrder _ _)).trans (State.expireIfDue_keepsOrder _ _)

theorem State.changeFan_keepsOrder (s : State) (cfg : FanConfig) : s.KeepsOrder (s.changeFan cfg) := by
  have set : s.KeepsOrder { s with settings := { s.settings with fan := cfg } } := {}
  have fed : ∀ (u : State) before, u.KeepsOrder (u.fanOnFeed before) := fun u before => by
    unfold State.fanOnFeed
    dsimp only
    repeat' split
    all_goals exact State.keepsOrder_of_same (by simp) (by simp) (by simp)
  have judged : ∀ u : State, u.KeepsOrder u.settleWindowJudged := fun u => by
    rw [State.settleWindowJudged_eq]
    exact {}
  exact ((set.trans (fed _ _)).trans (judged _)).react

/-- An accepted RESTART lets a pending frame wait on, whether one is served or not (R165). -/
theorem takeRestart_keepsOrder (s : State) : s.KeepsOrder (takeRestart s).1 := by
  unfold takeRestart
  split
  · exact .refl s
  · exact { link := fun ⟨replies, places, errors, _⟩ => ⟨replies, places, errors, fun _ => .inr rfl⟩ }

/-- Taking a request keeps the supply record and the link's places in order: it writes a function, ends in the blocks'
reaction, or writes of the supply record at most the marks that READ_SUPPLY clears. -/
theorem takeRequest_keepsOrder (i : Instr) (take : State → State × Reply) (h : takeRequest i = some take) (s : State) :
    s.KeepsOrder (take s).1 := by
  have reacts : ∀ {t : State}, s.KeepsOrder t → s.KeepsOrder t.react := State.KeepsOrder.react
  cases i <;> simp only [takeRequest, reduceCtorEq, Option.some.injEq] at h <;> subst h
  case hello | readFlasher | readFan | readStore => exact .refl s
  case restart => exact takeRestart_keepsOrder s
  case readEvents | setAttnLevel | setLinkTimeout => exact {}
  case setEvent | readDemand | readInputs | readMap | readChannel | setGauge | readGauge | setGaugePosition | setSender
      | readSender | readSupply | tableOpen | tablePoint | tableRead =>
    dsimp only [takeSetEvent, takeReadDemand, takeReadInputs, takeReadMap, takeReadChannel, takeSetGauge, takeReadGauge,
      takeSetGaugePosition, takeSetSender, takeReadSender, takeReadSupply, takeTableOpen, takeTablePoint, takeTableRead,
      accept_state]
    repeat' split
    all_goals exact {}
  case setDemand | releaseDemand =>
    dsimp only [takeSetDemand, takeReleaseDemand]
    repeat' split
    · exact .refl s
    · exact .refl s
    · exact s.writeFn_keepsOrder _ _
  case setDemandIf =>
    have cleared : ∀ u : State, u.KeepsOrder { u with reservation := none } := fun _ => {}
    unfold takeSetDemandIf
    repeat' split
    · exact .refl s
    · exact .refl s
    · exact (s.writeFn_keepsOrder _ _).trans (cleared _)
    · exact cleared s
  case setFunction =>
    unfold takeSetFunction
    split
    · rename_i f mode _ _
      have moded : s.KeepsOrder (s.withMode f mode) := {}
      exact moded.trans (State.writeFn_keepsOrder _ _ _)
    · exact .refl s
  case setInput =>
    unfold takeSetInput
    split
    · exact s.bindInput_keepsOrder _ _
    · exact .refl s
  case setMap =>
    unfold takeSetMap
    split
    · dsimp only
      repeat' split
      · exact .refl s
      · exact .refl s
      · exact reacts {}
    · exact .refl s
  case setRole =>
    unfold takeSetRole
    split
    · exact .refl s
    · exact reacts {}
  case setChannel =>
    unfold takeSetChannel
    split
    · dsimp only
      repeat' split
      · exact .refl s
      · exact reacts {}
      · exact .refl s
    · exact .refl s
  case clearChannel =>
    unfold takeClearChannel
    split
    · exact .refl s
    · exact reacts (s.setChannel_keepsOrder _ _)
  case setFlasher => exact s.changeFlasher_keepsOrder _ _
  case setFan =>
    unfold takeSetFan
    split
    · exact .refl s
    · exact s.changeFan_keepsOrder _
  case setSupply =>
    unfold takeSetSupply
    split
    · exact .refl s
    · dsimp only
      split
      · exact reacts {}
      · exact .refl s
  case tableCommit =>
    unfold takeTableCommit
    repeat' split
    · exact .refl s
    · exact .refl s
    · exact .refl s
    · exact .refl s
    · have closed : s.KeepsOrder (s.withStaging none) := {}
      exact closed.trans (State.startProgramming_keepsOrder _ _)
  case saveSettings =>
    unfold takeSaveSettings
    split
    · exact .refl s
    · exact s.startProgramming_keepsOrder _

/-- A take keeps the supply record in order and leaves the link to the serving around it. -/
structure TakeKeepsOrder (take : State → State × Reply) : Prop where
  supply : ∀ s, s.SupplyInOrder → (take s).1.SupplyInOrder
  link : ∀ s, (take s).1.link = s.link

theorem takeFrame_keepsOrder (frame : Frame) : TakeKeepsOrder (takeFrame frame) where
  link := takeFrame_link frame
  supply s hs := by
    unfold takeFrame
    split
    · exact hs
    · exact hs
    · split
      · exact (takeRequest_keepsOrder _ _ (by assumption) s).supply hs
      · exact hs

/-! ### Answering -/

@[simp] theorem Outgoing.reply_isReply (frame : Frame) : (Outgoing.reply frame).isReply = true := rfl
@[simp] theorem Outgoing.frameError_isReply (status : Status) : (Outgoing.frameError status).isReply = false := rfl
@[simp] theorem Outgoing.awaited_isReply : Outgoing.awaited.isReply = false := rfl
@[simp] theorem Outgoing.reply_isError (frame : Frame) : (Outgoing.reply frame).isError = false := rfl
@[simp] theorem Outgoing.frameError_isError (status : Status) : (Outgoing.frameError status).isError = true := rfl
@[simp] theorem Outgoing.awaited_isError : Outgoing.awaited.isError = false := rfl

/-- The link is no part of the supply record. -/
theorem State.withLink_supplyInOrder {s : State} (h : s.SupplyInOrder) (link : Link) :
    ({ s with link := link } : State).SupplyInOrder := h

theorem TakeKeepsOrder.answer_supply {take : State → State × Reply} (h : TakeKeepsOrder take) {s : State}
    (hs : s.SupplyInOrder) (frame : Frame) (place : Frame → List Outgoing → List Outgoing) :
    (s.answer frame take place).SupplyInOrder := h.supply _ hs

/-- An answered frame leaves the places in order where its reply is the only one and waits beside the place of a pending
frame, where there is one, and at most one FRAME_ERROR (R161 to R163). -/
theorem TakeKeepsOrder.answer_link {take : State → State × Reply} (h : TakeKeepsOrder take) {s : State} {frame : Frame}
    {place : Frame → List Outgoing → List Outgoing}
    (replies : ∀ r, ((place r s.link.outbox).filter Outgoing.isReply).length = 1)
    (places : ∀ r, ((place r s.link.outbox).filter (· == .awaited)).length
      = if s.link.pendingFrame.isSome = true then 1 else 0)
    (errors : ∀ r, ((place r s.link.outbox).filter Outgoing.isError).length ≤ 1) :
    (s.answer frame take place).LinkInOrder := by
  have kept := h.link { s with link := { s.link with served := some frame } }
  rw [State.answer_eq]
  dsimp only
  unfold State.LinkInOrder
  rw [kept]
  exact ⟨replies _, places _, errors _, fun _ => .inl rfl⟩

/-! ### Handing a frame on -/

theorem State.validFrame_keepsOrder (s : State) : s.KeepsOrder s.validFrame where
  supply hs := by
    unfold State.validFrame
    dsimp only
    split
    · exact State.withLink_supplyInOrder (s.exitLimp_keepsOrder.supply hs) _
    · exact hs
  link := by
    unfold State.LinkInOrder
    rw [State.validFrame_link, State.validFrame_restarting]
    exact id

/-- What waits beside the place of a pending frame is as it was when that place is given up. -/
theorem filter_drop_awaited (p : Outgoing → Bool) (h : p .awaited = false) (outbox : List Outgoing) :
    (outbox.filter fun o => !(o == .awaited)).filter p = outbox.filter p := by
  rw [List.filter_filter]
  refine List.filter_congr fun o _ => ?_
  cases o <;> simp [h]

/-- A frame that waits has the one place kept for it, while a frame is served or a restart is to come (R162, R165). -/
theorem State.holdPending_keepsOrder {s : State} (frame : Frame) (h : s.link.served ≠ none ∨ s.restarting = true) :
    s.KeepsOrder (s.holdPending frame) := by
  rw [State.holdPending_eq]
  refine { link := fun ⟨replies, _, errors, _⟩ => ⟨?_, ?_, ?_, fun _ => h.imp_left Option.isSome_iff_ne_none.2⟩ }
  · rw [List.filter_append, filter_drop_awaited _ rfl]
    simpa using replies
  · simp [List.filter_append, List.filter_filter]
  · rw [List.filter_append, filter_drop_awaited _ rfl]
    simpa using errors

theorem State.handOn_keepsOrder (s : State) (frame : Frame) {take : State → State × Reply} (h : TakeKeepsOrder take) :
    s.KeepsOrder (s.handOn frame take) := by
  obtain ⟨free, -, e⟩ | ⟨waits, e⟩ := s.handOn_cases frame take <;> rw [e]
  · refine s.validFrame_keepsOrder.trans ⟨fun hs => h.answer_supply hs _ _, fun hl => ?_⟩
    obtain ⟨replies, places, errors, -⟩ := hl
    rw [free] at replies
    refine h.answer_link (fun r => ?_) (fun r => ?_) fun r => ?_
    · simpa [appendReply, List.filter_append, List.filter_cons] using replies
    · simpa [appendReply, List.filter_append, List.filter_cons] using places
    · simpa [appendReply, List.filter_append, List.filter_cons] using errors
  · exact s.validFrame_keepsOrder.trans (State.holdPending_keepsOrder frame waits)

theorem State.whenPowered_keepsOrder (s : State) {k : State → State} (h : ∀ s : State, s.KeepsOrder (k s)) :
    s.KeepsOrder (s.whenPowered k) := by
  unfold State.whenPowered
  split
  · exact h s
  · exact .refl s

theorem State.serve_keepsOrder (s : State) (i : Instr) {take : State → State × Reply} (h : TakeKeepsOrder take) :
    s.KeepsOrder (s.serve i take) := by
  refine s.whenPowered_keepsOrder fun s => ?_
  split
  · exact s.handOn_keepsOrder _ h
  · exact .refl s

/-! ### The receiver -/

/-- A FRAME_ERROR is queued only where none waits (R161). -/
theorem State.queueError_keepsOrder (s : State) (status : Status) : s.KeepsOrder (s.queueError status) := by
  unfold State.queueError
  split
  · exact .refl s
  · rename_i absent
    have free : s.link.outbox.filter Outgoing.isError = [] := by simpa using absent
    refine { link := fun ⟨replies, places, _, waits⟩ => ⟨?_, ?_, ?_, waits⟩ }
    · simpa [List.filter_append] using replies
    · simpa [List.filter_append] using places
    · simp [List.filter_append, List.filter_cons, free]

theorem State.receive_keepsOrder (s : State) (r : Receiver) : s.KeepsOrder (s.receive r) := {}

theorem State.refuseLength_keepsOrder (s : State) : s.KeepsOrder s.refuseLength :=
  (s.receive_keepsOrder _).trans (State.queueError_keepsOrder _ _)

theorem State.checkFrame_keepsOrder (s : State) (len : Byte) (frame : Frame) (chk : Byte) :
    s.KeepsOrder (s.checkFrame len frame chk) := by
  unfold State.checkFrame
  dsimp only
  split
  · exact (s.receive_keepsOrder _).trans (State.handOn_keepsOrder _ _ (takeFrame_keepsOrder frame))
  · exact (s.receive_keepsOrder _).trans (State.queueError_keepsOrder _ _)

theorem State.receiveByte_keepsOrder (s : State) (b : Byte) : s.KeepsOrder (s.receiveByte b) := by
  unfold State.receiveByte
  split
  · split
    · exact s.receive_keepsOrder _
    · exact .refl s
  · split
    · exact s.refuseLength_keepsOrder
    · exact s.receive_keepsOrder _
  · exact s.receive_keepsOrder _
  · exact s.receive_keepsOrder _
  · exact s.checkFrame_keepsOrder _ _ _

/-! ### The transmitter -/

/-- What is sent is no kept place, and it is taken out of the outbox once (log 16). -/
theorem sendFirst_spec {outbox rest : List Outgoing} {sent : Outgoing} (h : sendFirst outbox = some (sent, rest)) :
    sent ≠ .awaited ∧ outbox.Perm (sent :: rest) := by
  induction outbox generalizing rest with
  | nil => cases h
  | cons o outbox ih =>
    cases o with
    | awaited =>
      obtain ⟨⟨sent', rest'⟩, found, e⟩ := Option.map_eq_some_iff.1 h
      obtain ⟨rfl, rfl⟩ := Prod.mk.inj e
      obtain ⟨real, perm⟩ := ih found
      exact ⟨real, (perm.cons _).trans (.swap _ _ _)⟩
    | reply | frameError =>
      obtain ⟨rfl, rfl⟩ := Prod.mk.inj (Option.some.inj h)
      exact ⟨nofun, .refl _⟩

/-- How many of a kind waited before one was sent. -/
theorem sendFirst_count {outbox rest : List Outgoing} {sent : Outgoing} (h : sendFirst outbox = some (sent, rest))
    (p : Outgoing → Bool) : (outbox.filter p).length = (if p sent = true then 1 else 0) + (rest.filter p).length := by
  rw [((sendFirst_spec h).2.filter p).length_eq, List.filter_cons]
  split
  · rw [List.length_cons, Nat.add_comm]
  · rw [Nat.zero_add]

/-- A reply that takes the place kept for it is one reply more and one kept place less (R163, log 16). -/
theorem fillAwaited_counts (frame : Frame) (outbox : List Outgoing) :
    ((fillAwaited frame outbox).filter Outgoing.isReply).length = (outbox.filter Outgoing.isReply).length + 1
    ∧ ((fillAwaited frame outbox).filter (· == .awaited)).length = (outbox.filter (· == .awaited)).length - 1
    ∧ ((fillAwaited frame outbox).filter Outgoing.isError).length = (outbox.filter Outgoing.isError).length := by
  induction outbox with
  | nil => simp [fillAwaited, List.filter_cons]
  | cons o outbox ih =>
    obtain ⟨replies, places, errors⟩ := ih
    cases o <;> simp [fillAwaited, List.filter_cons, replies, places, errors]

theorem State.serveNext_supply {s : State} (hs : s.SupplyInOrder) : s.serveNext.SupplyInOrder := by
  unfold State.serveNext
  dsimp only
  split
  · split
    · exact hs
    · exact (takeFrame_keepsOrder _).answer_supply (State.withLink_supplyInOrder hs _) _ _
  · exact hs

/-- With the served frame's reply out of the outbox, the served place is free; a pending frame becomes the served one and
its reply takes the place kept for it, unless a restart is to come (R162, R165). -/
theorem State.serveNext_link {s : State} (replies : (s.link.outbox.filter Outgoing.isReply).length = 0)
    (places : (s.link.outbox.filter (· == .awaited)).length = if s.link.pendingFrame.isSome = true then 1 else 0)
    (errors : (s.link.outbox.filter Outgoing.isError).length ≤ 1) : s.serveNext.LinkInOrder := by
  unfold State.serveNext
  dsimp only
  split
  · rename_i frame pending
    split
    · rename_i restarts
      exact ⟨replies, places, errors, fun _ => .inr restarts⟩
    · rw [pending] at places
      refine (takeFrame_keepsOrder frame).answer_link (fun r => ?_) (fun r => ?_) fun r => ?_
      · exact (fillAwaited_counts r _).1.trans (by rw [replies])
      · exact (fillAwaited_counts r _).2.1.trans (by rw [places]; rfl)
      · exact (fillAwaited_counts r _).2.2.trans_le errors
  · rename_i idle
    exact ⟨replies, places, errors, by simp [idle]⟩

theorem State.sendReply_keepsOrder (s : State) : s.KeepsOrder s.sendReply := by
  unfold State.sendReply
  split
  · exact .refl s
  · rename_i sent rest first
    obtain ⟨real, -⟩ := sendFirst_spec first
    have replyCount := sendFirst_count first Outgoing.isReply
    have placeCount := sendFirst_count first (· == .awaited)
    have errorCount := sendFirst_count first Outgoing.isError
    have unsent : (sent == .awaited) = false := by simpa using real
    rw [unsent, if_neg Bool.false_ne_true, Nat.zero_add] at placeCount
    dsimp only
    split
    · rename_i reply
      rw [if_pos reply] at replyCount
      refine ⟨fun hs => State.serveNext_supply (State.withLink_supplyInOrder hs _), fun hl => ?_⟩
      obtain ⟨replies, places, errors, -⟩ := hl
      refine State.serveNext_link ?_ (placeCount.symm.trans places) (by dsimp only; omega)
      dsimp only
      split at replies <;> omega
    · rename_i error
      rw [if_neg error, Nat.zero_add] at replyCount
      exact { link := fun ⟨replies, places, errors, waits⟩ =>
        ⟨replyCount.symm.trans replies, placeCount.symm.trans places, by dsimp only; omega, waits⟩ }

end Sys2Proof.Machine
end

section
/-! SUPPORT. Every command and every step keeps the supply record and the link's places in order (R134, R135, R142, R161 to
R163, R165). -/

namespace Sys2Proof.Machine

/-! ### Power and the clock -/

theorem State.supplyInOrder_of_start {s : State} (h : s.supply = startSupply) : s.SupplyInOrder := by
  rw [State.supplyInOrder_iff, h]
  exact ⟨fun _ => rfl, SupplyTimers.zero_inOrder _, Nat.zero_le _, Nat.zero_le _, rfl, rfl⟩

/-- After a reset the supply record is the blank one and nothing waits on the link (R149, R173). -/
theorem State.startUp_keepsOrder (s : State) (detail : Nat) : s.KeepsOrder (s.startUp detail) where
  supply _ := State.supplyInOrder_of_start rfl
  link _ := ⟨rfl, rfl, Nat.zero_le _, nofun⟩

theorem State.hold_keepsOrder (s : State) : s.KeepsOrder s.hold := by
  have held : (s.startUp 0).KeepsOrder s.hold := {}
  exact (s.startUp_keepsOrder 0).trans held

/-- A millisecond moves timers alone, and none of the supply record's: those run at slots (R135). -/
theorem State.tick_keepsOrder (s : State) : s.KeepsOrder s.tick := s.whenPowered_keepsOrder fun _ => {}

/-! ### The commands of the timers and the samples -/

theorem State.sampleChannel_keepsOrder (s : State) (c : Fin 16) (milliamps : Nat) :
    s.KeepsOrder (s.sampleChannel c milliamps) := by
  have tripped : ∀ u : State, u.KeepsOrder (u.trip c) := fun _ =>
    State.keepsOrder_of_same (by simp) (by simp) (by simp)
  unfold State.sampleChannel
  dsimp only
  repeat' split
  · exact ((s.setChannel_keepsOrder _ _).trans (tripped _)).react
  · exact s.setChannel_keepsOrder _ _
  · exact s.setChannel_keepsOrder _ _

theorem State.expireTimer_keepsOrder (s : State) (runsIn : Bool) (timer : SupplyTimer) {next : SupplyState}
    {armed : Bool} (h : next ≠ .shed → armed = true) : s.KeepsOrder (s.expireTimer runsIn timer next armed) := by
  refine s.whenPowered_keepsOrder fun s => ?_
  split
  · exact (s.moveSupply_keepsOrder h).react
  · exact .refl s

/-! ### Every command and every step -/

/-- A command that is no request keeps the supply record and the link's places in order. -/
theorem exec_event_keepsOrder (i : Instr) (h : frameOf? i = none) (s t : State) (ht : exec i s = .next t) :
    s.KeepsOrder t := by
  have powered : ∀ {k : State → State}, (∀ s : State, s.KeepsOrder (k s)) → s.KeepsOrder (s.whenPowered k) :=
    s.whenPowered_keepsOrder
  cases i <;> simp only [frameOf?, reduceCtorEq] at h <;> obtain rfl := Host.Outcome.next.inj ht
  case powerOnReset => exact s.startUp_keepsOrder 0
  case partRestart =>
    refine powered fun s => ?_
    split
    · exact s.startUp_keepsOrder 1
    · exact .refl s
  case frameReceived =>
    refine powered fun s => ?_
    split
    · exact s.checkFrame_keepsOrder _ _ _
    all_goals exact .refl s
  case frameBadLength =>
    refine powered fun s => ?_
    split
    · exact s.refuseLength_keepsOrder
    · exact .refl s
  case frameGapTimeout => exact powered fun s => s.receive_keepsOrder _
  case replySent => exact powered State.sendReply_keepsOrder
  case unknownKindRequest =>
    refine powered fun s => ?_
    split
    · exact .refl s
    · exact s.handOn_keepsOrder _ ⟨fun _ => id, fun _ => rfl⟩
  case limpEntry =>
    refine powered fun s => ?_
    split
    · exact .refl s
    · exact s.enterLimp_keepsOrder
  case switchRawChange => exact s.setInput_keepsOrder _ _
  case debounceExpiry =>
    exact powered fun s => (s.setInput_keepsOrder _ _).trans (State.debounceTo_keepsOrder _ _ _)
  case runOnExpiry =>
    refine powered fun s => ?_
    split
    · exact s.cancelSide_keepsOrder _
    · exact .refl s
  case phaseBoundary =>
    refine powered fun s => ?_
    split
    · exact .refl s
    · exact State.KeepsOrder.react {}
  case settleWindowEnd =>
    refine powered fun s => ?_
    split
    · exact State.KeepsOrder.react {}
    · exact .refl s
  case channelSample => exact powered fun s => s.sampleChannel_keepsOrder _ _
  case lampOpenDetect =>
    refine powered fun s => ?_
    dsimp only
    repeat' split
    · exact s.setChannel_keepsOrder _ _
    · exact State.KeepsOrder.react {}
    · exact .refl s
  case lampOpenClear | tripWaitEnd =>
    refine powered fun s => ?_
    dsimp only
    split
    · exact (s.setChannel_keepsOrder _ _).react
    · exact .refl s
  case sampleSlot => exact powered fun s => (s.judgeSlot_keepsOrder _ _).react
  case leanTimerExpiry | budgetTimerExpiry | recoveryTimerExpiry | unshedTimerExpiry | crankExitTimerExpiry =>
    exact s.expireTimer_keepsOrder _ _ fun _ => rfl
  case shedTimerExpiry | crankLimitTimerExpiry => exact s.expireTimer_keepsOrder _ _ fun away => absurd rfl away
  case powerLoss => exact powered State.hold_keepsOrder
  case byteReceived => exact powered fun s => s.receiveByte_keepsOrder _
  case goodRunExpiry =>
    refine powered fun s => ?_
    dsimp only
    split
    · exact s.setChannel_keepsOrder _ _
    · exact .refl s
  case inrushEnd | pullInEnd | driverWaitEnd | fanOpenDetect | fanOpenClear | programmingComplete =>
    refine powered fun s => ?_
    repeat' split
    all_goals exact {}
  case fanRampStep | stallWaitEnd | fanStall =>
    refine powered fun s => ?_
    split
    · exact State.keepsOrder_of_same (by simp) (by simp) (by simp)
    · exact .refl s
  case senderSample | driverSample | fanSample =>
    refine powered fun s => ?_
    dsimp only [State.sampleSender, State.sampleDriver, State.sampleFan]
    repeat' split
    all_goals exact State.keepsOrder_of_same (by simp) (by simp) (by simp)
  case gaugeUpdate g =>
    have updated : ∀ s : State, s.KeepsOrder (s.updateGauge g) := fun s => by
      unfold State.updateGauge
      dsimp only
      repeat' split
      all_goals exact {}
    exact powered fun s => (updated s).trans {}

theorem exec_keepsOrder (i : Instr) (s t : State) (ht : exec i s = .next t) : s.KeepsOrder t := by
  cases hf : frameOf? i with
  | none => exact exec_event_keepsOrder i hf s t ht
  | some frame =>
    obtain ⟨take, hk, he⟩ := exec_request i frame hf
    obtain rfl := Host.Outcome.next.inj ((he s).symm.trans ht)
    exact s.serve_keepsOrder i ⟨fun s => (takeRequest_keepsOrder i take hk s).supply, takeRequest_link i take hk⟩

theorem step_keepsOrder (s t : State) (h : step s = .next t) : s.KeepsOrder t := by
  obtain ⟨i, rest, h⟩ | ⟨i, h⟩ | rfl := step_cases h
  · have queued : s.KeepsOrder (s.withPending rest) := {}
    exact queued.trans (exec_keepsOrder i _ t h)
  · have counted : s.KeepsOrder s.clockActed := {}
    exact counted.trans (exec_keepsOrder i _ t h)
  · exact s.tick_keepsOrder

end Sys2Proof.Machine

open Sys2Proof Sys2Proof.Machine

/-- Settles O60: of the supply record, only slots, moves of the supply state and resets write what the order reads; a frame
that is answered, held or sent moves its places together. -/
theorem everyStepKeepsSupplyAndLinkInOrder : Obligations.EveryStepKeepsSupplyAndLinkInOrder := by
  unfold Obligations.EveryStepKeepsSupplyAndLinkInOrder
  intro s t h
  obtain ⟨supply, link⟩ := step_keepsOrder s t h
  exact ⟨supply, link⟩

end

section
/-! SUPPORT. What a reset reads from the pages: the contents of the valid ones, the factory figures for the others, and
the mark of the last that is not valid (R22, R23, R40, R65, R83, R94, R118, R132, R137, R150, R152, R173). -/

namespace Sys2Proof.Machine

/-! ### The last invalid page -/

/-- Going through a list and keeping the latest place that passes a test: where none passes, nothing is kept anew. -/
theorem foldl_latest_of_none {α β : Type} (test : α → Bool) (mark : α → β) {l : List α}
    (h : ∀ a ∈ l, test a = false) (kept : Option β) :
    l.foldl (fun last a => if test a then some (mark a) else last) kept = kept := by
  induction l with
  | nil => rfl
  | cons a l ih =>
    obtain ⟨fails, rest⟩ := List.forall_mem_cons.1 h
    rw [List.foldl_cons, fails]
    exact ih rest

/-- In an ordered list the greatest place that passes the test is the one kept. -/
theorem foldl_latest {α β : Type} [Preorder α] (test : α → Bool) (mark : α → β) {l : List α}
    (ordered : l.Pairwise (· < ·)) {a : α} (mem : a ∈ l) (passes : test a = true)
    (later : ∀ b ∈ l, a < b → test b = false) (kept : Option β) :
    l.foldl (fun last a => if test a then some (mark a) else last) kept = some (mark a) := by
  induction l generalizing kept with
  | nil => exact absurd mem List.not_mem_nil
  | cons b l ih =>
    obtain ⟨above, ordered'⟩ := List.pairwise_cons.1 ordered
    rw [List.foldl_cons]
    obtain rfl | mem' := List.mem_cons.1 mem
    · rw [passes]
      exact foldl_latest_of_none test mark (fun c hc => later c (List.mem_cons_of_mem _ hc) (above c hc)) _
    · exact ih ordered' mem' (fun c hc => later c (List.mem_cons_of_mem _ hc)) _

section
variable {tables : Vector (Option Table) 8} {settings : Option Settings}

/-- Page S is read last: where it is not valid it is the last invalid page (R152). -/
theorem lastInvalidPage_of_settings (h : settings = none) : lastInvalidPage tables settings = some 8 := by
  subst h
  rfl

theorem lastInvalidPage_of_table (valid : settings ≠ none) {p : Fin 8} (h : tables[p] = none)
    (later : ∀ q : Fin 8, p < q → tables[q] ≠ none) :
    lastInvalidPage tables settings = some (p.castLE (by decide)) := by
  rw [lastInvalidPage, if_neg (by simpa using valid)]
  refine foldl_latest (fun q : Fin 8 => (tables[q]).isNone) _ (List.pairwise_lt_finRange 8) (List.mem_finRange p)
    ?_ ?_ none
  · simp [h]
  · exact fun q _ hq => Option.isNone_eq_false_iff.2 (Option.isSome_iff_ne_none.2 (later q hq))

theorem lastInvalidPage_of_valid (valid : settings ≠ none) (h : ∀ p : Fin 8, tables[p] ≠ none) :
    lastInvalidPage tables settings = none := by
  rw [lastInvalidPage, if_neg (by simpa using valid)]
  exact foldl_latest_of_none (fun q : Fin 8 => (tables[q]).isNone) _ (fun q _ =>
    Option.isNone_eq_false_iff.2 (Option.isSome_iff_ne_none.2 (h q))) none

end

/-- What a reset leaves of the last invalid page, if there is one, in STORE_FAIL and in the failure record (R152). -/
theorem State.startUp_mark (s : State) (detail : Nat) {last : Option (Fin 9)}
    (h : lastInvalidPage s.store.tablePages s.store.settingsPage = last) :
    (s.startUp detail).store.failure = last.map (fun p => ⟨p, .invalidAtStart⟩)
    ∧ (s.startUp detail).event .storeFail = last.elim clearEvent (fun p => ⟨true, p.val⟩) := by
  subst h
  refine ⟨rfl, ?_⟩
  simp only [State.event, State.startUp, startEvents]
  rw [vector_set_getElem_of_ne _ _ _ _ (Event.idx_ne (by decide))]
  cases lastInvalidPage s.store.tablePages s.store.settingsPage <;> simp

/-! ### Contents and factory values -/

theorem State.startUp_settings (s : State) (detail : Nat) :
    (s.startUp detail).settings = s.store.settingsPage.getD factorySettings := rfl

theorem State.startUp_table (s : State) (detail : Nat) (p : Fin 8) :
    (s.startUp detail).tables[p] = s.store.tablePages[p].getD (factoryTable p) := vecOfFn_getElem_fin _ p

theorem factorySettings_mode (f : Fn) : factorySettings.modes[f.idx] = factoryMode f := by
  simp [factorySettings]

theorem factorySettings_shedClass (r : Role) : factorySettings.shedClasses[r.idx] = factoryShedClass r := by
  simp [factorySettings]

theorem factorySettings_channel (c : Fin 16) : factorySettings.channels[c] = factoryChannel c := vecOfFn_getElem_fin _ c

theorem factorySettings_sender (n : Fin 4) : factorySettings.senders[n] = ⟨5, 5000⟩ := Vector.getElem_replicate _

theorem factorySettings_event (e : Fin 16) : factorySettings.events[e] = ⟨true, factoryEventLevel e⟩ :=
  vecOfFn_getElem_fin _ e

end Sys2Proof.Machine

open Sys2Proof Sys2Proof.Machine

/-- Settles O5: each page's content or factory value is read off `State.startUp`, and the mark is `lastInvalidPage`'s. -/
theorem invalidPagesGiveFactoryValues : Obligations.InvalidPagesGiveFactoryValues := by
  unfold Obligations.InvalidPagesGiveFactoryValues
  refine fun s => ⟨s.startUp 0, exec_powerOnReset s, fun x valid => ?_, fun p points valid => ?_, fun p invalid => ?_,
    fun invalid => ?_, fun invalid => ?_, fun p valid invalid later => ?_, fun valid tables => ?_⟩
  · rw [State.startUp_settings, valid]
    rfl
  · rw [State.startUp_table, valid]
    rfl
  · rw [State.startUp_table, invalid]
    rfl
  · have factory : (s.startUp 0).settings = factorySettings := by
      rw [State.startUp_settings, invalid]
      rfl
    intro level heavy light
    simp only [State.mode, State.shedClass, State.channelConfig, State.senderConfig, factory, factorySettings_mode,
      factorySettings_shedClass, factorySettings_channel, factorySettings_event]
    refine ⟨rfl, fun f => ?_, fun r => ?_, rfl, fun c => ?_, rfl, rfl, factorySettings_sender, rfl, rfl, rfl, fun e => ?_,
      rfl, rfl⟩
    · cases f <;> rfl
    · cases r <;> rfl
    · simp only [factoryChannel, isHeavy, decide_eq_true_eq]
      split <;> rfl
    · cases e <;> rfl
  · exact s.startUp_mark 0 (lastInvalidPage_of_settings invalid)
  · exact s.startUp_mark 0 (lastInvalidPage_of_table valid invalid later)
  · have ⟨failure, event⟩ := s.startUp_mark 0 (lastInvalidPage_of_valid valid tables)
    exact ⟨failure, congrArg EventRecord.flag event⟩

end

section
/-! SUPPORT. The store: what its requests accept and refuse, how a programming begins and how it ends
(R151, R153 to R157). -/

namespace Sys2Proof.Machine

/-! ### The staging buffer -/

theorem takeTableOpen_accepts (s : State) (p : Fin 8) {start : Nat} (h : start ≤ 15) :
    takeTableOpen p.val start s = accept (s.withStaging (some (openStaging p s.tables[p] start)))
      (u8 p.val ++ u8 start ++ u8 s.tables[p].length) := by
  rw [takeTableOpen, index?_val]
  exact if_neg (not_lt.2 h)

theorem takeTablePoint_refuses_closed {s : State} (h : s.store.staging = none) (x y : Nat) :
    takeTablePoint x y s = (s, u8 0x07) := by
  rw [takeTablePoint, h]
  rfl

theorem takeTablePoint_refuses_full {s : State} {b : Staging} (h : s.store.staging = some b) (full : 16 ≤ b.pointer)
    (x y : Nat) : takeTablePoint x y s = (s, u8 0x08) := by
  rw [takeTablePoint, h]
  exact dif_neg (not_lt.2 full)

theorem takeTablePoint_accepts {s : State} {b : Staging} (h : s.store.staging = some b) (free : b.pointer < 16)
    (x y : Nat) :
    let q := clampPoint b.table x y
    let put := b.put q free
    takeTablePoint x y s
      = accept (s.withStaging (some put)) (u16 q.x ++ u16 q.y ++ u8 put.pointer ++ u8 put.length) := by
  rw [takeTablePoint, h]
  exact dif_pos free

/-! ### The checks of TABLE_COMMIT and SAVE_SETTINGS -/

theorem takeTableCommit_refuses_closed {s : State} (h : s.store.staging = none) (length : Nat) :
    takeTableCommit length s = (s, u8 0x07) := by
  rw [takeTableCommit, h]
  rfl

/-- The checks after NOT_OPEN, in their order (R155). -/
theorem takeTableCommit_open {s : State} {b : Staging} (h : s.store.staging = some b) (length : Nat) :
    takeTableCommit length s =
      if length < 2 ∨ 16 < length ∨ b.length < length then (s, u8 0x04)
      else if s.store.programming ≠ none then (s, u8 0x06)
      else if ¬ (b.first length).Pairwise (fun p q => p.x < q.x) then (s, u8 0x09)
      else accept ((s.withStaging none).startProgramming (.table b.table (b.first length)))
        (u8 b.table.val ++ u8 length) := by
  rw [takeTableCommit, h]
  simp only [Option.isSome_iff_ne_none, Bool.not_eq_true', ← Bool.not_eq_true, increasing_iff]
  rfl

theorem takeSaveSettings_eq (s : State) : takeSaveSettings s =
    if s.store.programming ≠ none then (s, u8 0x06) else accept (s.startProgramming (.settings s.settings)) [] := by
  simp only [takeSaveSettings, Option.isSome_iff_ne_none]
  rfl

/-! ### How a programming begins -/

theorem State.startProgramming_supplied {s : State} (h : s.storeCondition = true) (image : Image) :
    s.startProgramming image = s.beginProgramming image := if_pos h

theorem State.startProgramming_unsupplied {s : State} (h : s.storeCondition = false) (image : Image) :
    s.startProgramming image = (s.beginProgramming image).failProgramming image .lowSupply :=
  if_neg (ne_true_of_eq_false h)

/-- An accepted request begins a programming, which goes on with the store supply condition and fails at once without it
(R151, R156). -/
theorem exec_begins {s : State} {i : Instr} {frame : Frame} {take : State → State × Reply} {fields : List Byte}
    {staging : Option Staging} {image : Image} (ha : s.attentive) (hf : frameOf? i = some frame)
    (hk : takeRequest i = some take)
    (ht : take (s.heard frame) = accept (((s.heard frame).withStaging staging).startProgramming image) fields) :
    let begun := (s.withStaging staging).beginProgramming image
    let link := s.linkAfter frame (u8 0 ++ fields)
    ∃ t, exec i s = .next t
      ∧ (s.storeCondition = true → t = { begun with link := link })
      ∧ (s.storeCondition = false → t = { begun.failProgramming image .lowSupply with link := link }) := by
  refine ⟨_, exec_accepted ha hf hk ht, fun supplied => ?_, fun unsupplied => ?_⟩
  · rw [State.startProgramming_supplied (s := (s.heard frame).withStaging staging) supplied]
    rfl
  · rw [State.startProgramming_unsupplied (s := (s.heard frame).withStaging staging) unsupplied]
    rfl

/-! ### How a programming ends -/

theorem exec_programmingComplete_idle {s : State} (hp : s.powered = true) (h : s.store.programming = none)
    (agrees : Bool) : exec (.programmingComplete agrees) s = .next s := by
  simp only [exec, execProgrammingComplete, State.whenPowered_on _ _ hp, h]

/-- The three ends of a programming in flight (R156). -/
theorem exec_programmingComplete {s : State} {p : Programming} (hp : s.powered = true)
    (h : s.store.programming = some p) (agrees : Bool) : exec (.programmingComplete agrees) s = .next
      (if s.storeCondition = false then s.failProgramming p.image .lowSupply
      else if agrees = true then s.finishProgramming p.image
      else s.failProgramming p.image .verify) := by
  simp only [exec, execProgrammingComplete, State.whenPowered_on _ _ hp, h, Bool.not_eq_true']

end Sys2Proof.Machine

open Sys2Proof Sys2Proof.Machine

/-- Settles O51: both takes are one change of the staging buffer, or a refusal. -/
theorem stagingTakesPoints : Obligations.StagingTakesPoints := by
  unfold Obligations.StagingTakesPoints
  refine fun s ha => ⟨fun p start h => ?_, fun x y => ⟨fun closed => ?_, fun b opened full => ?_,
    fun b opened free => ?_⟩⟩
  · refine (exec_accepted ha rfl rfl (takeTableOpen_accepts (s.heard _) p h)).trans ?_
    simp only [← List.append_assoc]
    rfl
  · exact exec_answered ha rfl rfl (takeTablePoint_refuses_closed (s := s.heard _) closed x y)
  · exact exec_answered ha rfl rfl (takeTablePoint_refuses_full (s := s.heard _) opened full x y)
  · refine (exec_accepted ha rfl rfl (takeTablePoint_accepts (s := s.heard _) opened free x y)).trans ?_
    simp only [← List.append_assoc]
    rfl

/-- Settles O52: the checks are the takes' equations in their order, and what passes them begins a programming. -/
theorem programmingBeginsOnRequest : Obligations.ProgrammingBeginsOnRequest := by
  unfold Obligations.ProgrammingBeginsOnRequest
  intro s ha begun
  have saved := takeSaveSettings_eq (s.heard ⟨0x54, []⟩)
  refine ⟨fun length => ⟨fun closed => ?_, fun b opened => ?_⟩, fun busy => ?_, fun idle => ?_⟩
  · exact exec_answered ha rfl rfl (takeTableCommit_refuses_closed (s := s.heard _) closed length)
  · have checks := takeTableCommit_open (s := s.heard ⟨0x52, u8 length⟩) opened length
    refine ⟨fun outside => exec_answered ha rfl rfl (checks.trans (if_pos outside)), fun least most within busy => ?_,
      fun least most within idle => ?_⟩
    · exact exec_answered ha rfl rfl (checks.trans ((if_neg (by omega)).trans (if_pos busy)))
    · have free := checks.trans ((if_neg (by omega)).trans (if_neg (not_not.2 idle)))
      exact ⟨fun unsorted => exec_answered ha rfl rfl (free.trans (if_pos unsorted)),
        fun sorted => exec_begins ha rfl rfl (free.trans (if_neg (not_not.2 sorted)))⟩
  · exact exec_answered ha rfl rfl (saved.trans (if_pos busy))
  · exact exec_begins (staging := s.store.staging) ha rfl rfl (saved.trans (if_neg (not_not.2 idle)))

/-- Settles O53: the three ends are those of `exec_programmingComplete`. -/
theorem programmingEndsAsItReadsBack : Obligations.ProgrammingEndsAsItReadsBack := by
  unfold Obligations.ProgrammingEndsAsItReadsBack
  refine fun s agrees hp => ⟨fun idle => exec_programmingComplete_idle hp idle agrees, fun image elapsed flying => ?_⟩
  rw [exec_programmingComplete hp flying]
  refine ⟨fun unsupplied => ?_, fun supplied differs => ?_, fun supplied agrees => ⟨_, rfl, ?_⟩⟩
  · rw [if_pos unsupplied]
    cases image <;> rfl
  · rw [if_neg (by simp [supplied]), if_neg (by simp [differs])]
    cases image <;> rfl
  · rw [if_neg (by simp [supplied]), if_pos agrees]
    cases image <;> exact ⟨rfl, rfl, rfl, rfl⟩

end

section
/-! SUPPORT. The frame of a request and the request of a frame, each read from the other (R174, R176), and the bytes of
a frame on the wire (R160, R161). -/

namespace Sys2Proof.Machine

/-! ### A request and its frame -/

theorem requestLength_of_frameOf? {i : Instr} {frame : Frame} (hf : frameOf? i = some frame) :
    requestLength frame.kind = some frame.payload.length := by
  cases i <;> simp only [frameOf?, reduceCtorEq, Option.some.injEq] at hf <;> subst hf <;> rfl

/-- A well-formed request's fields are read back one by one from its payload. -/
theorem requestOf_of_frameOf? {i : Instr} {frame : Frame} (hw : i.wellFormed = true) (hf : frameOf? i = some frame) :
    requestOf frame.kind frame.payload = some i := by
  cases i <;> simp only [frameOf?, reduceCtorEq, Option.some.injEq] at hf <;> subst hf <;>
    simp only [Instr.wellFormed, Bool.and_eq_true] at hw <;> change some _ = _ <;>
    simp only [hw, u8_reads_back, pair_reads_back]

/-- A well-formed request is what its frame asks for. -/
theorem Frame.asks_of_frameOf? {i : Instr} {frame : Frame} (hw : i.wellFormed = true) (hf : frameOf? i = some frame) :
    frame.asks = .request i :=
  Frame.asks_request _ _ _ _ (requestLength_of_frameOf? hf) rfl (requestOf_of_frameOf? hw hf)

theorem u8_toNat (b : Byte) : u8 b.toNat = [b] := by simp [u8]

theorem u16_pair (lo hi : Byte) : u16 (pair lo hi) = [lo, hi] := by
  have low := lo.isLt
  have high := hi.isLt
  refine congrArg₂ (fun x y => [x, y]) (BitVec.eq_of_toNat_eq ?_) (BitVec.eq_of_toNat_eq ?_) <;>
    simp only [pair, BitVec.toNat_ofNat] <;> omega

/-- Bytes of the length of their kind that spell a request are that request's frame: each kind's payload is taken apart
into its bytes, which the request's fields give back. -/
theorem frameOf?_of_requestOf {kind : Byte} {payload : List Byte} {i : Instr} {n : Nat}
    (hk : requestLength kind = some n) (hl : payload.length = n) (hr : requestOf kind payload = some i) :
    frameOf? i = some ⟨kind, payload⟩ := by
  obtain ⟨⟨kind, bound⟩⟩ := kind
  unfold requestLength at hk
  split at hk
  case h_37 => cases hk
  all_goals
    obtain rfl := Option.some.inj hk
    rename_i code
    obtain rfl : kind = _ := code
    repeat
      rw [List.length_eq_succ_iff] at hl
      obtain ⟨_, payload, rfl, hl⟩ := hl
    obtain rfl := List.eq_nil_of_length_eq_zero hl
    obtain rfl : _ = i := Option.some.inj hr
    simp only [frameOf?, u8_toNat, u16_pair, List.cons_append, List.nil_append]
    rfl

/-- A frame that asks for a request is the frame that the request is sent in. -/
theorem Frame.frameOf?_of_asks {frame : Frame} {i : Instr} (h : frame.asks = .request i) : frameOf? i = some frame := by
  unfold Frame.asks at h
  split at h
  · cases h
  · split at h
    · split at h
      · cases h
        exact frameOf?_of_requestOf (by assumption) (by assumption) (by assumption)
      · cases h
    · cases h

/-! ### Taking what a frame asks for -/

theorem takeFrame_of_badLength {frame : Frame} {n : Nat} (hk : requestLength frame.kind = some n)
    (hl : frame.payload.length ≠ n) : takeFrame frame = refuse .badLength := by
  funext s
  simp only [takeFrame, Frame.asks, hk, hl, if_false]

theorem takeFrame_of_unknownKind {frame : Frame} (hk : requestLength frame.kind = none) :
    takeFrame frame = refuse .unknownKind := by
  funext s
  simp only [takeFrame, Frame.asks, hk]

theorem takeFrame_of_asks {frame : Frame} {i : Instr} {take : State → State × Reply} (h : frame.asks = .request i)
    (hk : takeRequest i = some take) : takeFrame frame = take := by
  funext s
  simp only [takeFrame, h, hk]

/-- A request command in a running part hands its frame on (log 3). -/
theorem exec_handsOn {s : State} {i : Instr} {frame : Frame} {take : State → State × Reply} (hp : s.powered = true)
    (hf : frameOf? i = some frame) (hk : takeRequest i = some take) : exec i s = .next (s.handOn frame take) := by
  rw [exec_of_take hf hk, State.serve, State.whenPowered_on _ _ hp, hf]

/-- A request command does what the frame that asks for it does. -/
theorem exec_of_asks {s : State} {i : Instr} {frame : Frame} (hp : s.powered = true) (h : frame.asks = .request i) :
    exec i s = .next (s.handOn frame (takeFrame frame)) := by
  have hf := Frame.frameOf?_of_asks h
  obtain ⟨take, hk, -⟩ := exec_request i frame hf
  rw [exec_handsOn hp hf hk, takeFrame_of_asks h hk]

/-! ### The bytes of a frame -/

theorem afterBytes_cons {s : State} (hp : s.powered = true) (b : Byte) (rest : List Byte) :
    afterBytes s (b :: rest) = afterBytes (s.receiveByte b) rest := by
  rw [afterBytes, exec_byteReceived s b hp]

/-- A frame adds up to a multiple of 256 by its check byte (R160). -/
theorem Frame.sum_check (frame : Frame) : frame.len + frame.kind + byteSum frame.payload + frame.check = 0 := by
  rw [Frame.check]
  exact add_neg_cancel _

theorem State.checkFrame_valid {len chk : Byte} {frame : Frame} (h : len + frame.kind + byteSum frame.payload + chk = 0)
    (s : State) : s.checkFrame len frame chk = (s.receive .hunting).handOn frame (takeFrame frame) := if_pos h

theorem State.checkFrame_invalid {len chk : Byte} {frame : Frame}
    (h : len + frame.kind + byteSum frame.payload + chk ≠ 0) (s : State) :
    s.checkFrame len frame chk = (s.receive .hunting).queueError .badCheck := if_neg h

/-- The rest of a payload and the check byte, after the bytes already taken: the frame's sum is judged (R160, R161). -/
theorem afterBytes_payload {s : State} (hp : s.powered = true) (len kind chk : Byte) (rest : List Byte) :
    ∀ taken : List Byte, (taken ++ rest).length = len.toNat →
      afterBytes (s.receive (collected len kind taken)) (rest ++ [chk])
        = .next (s.checkFrame len ⟨kind, taken ++ rest⟩ chk) := by
  induction rest with
  | nil =>
    intro taken complete
    rw [List.append_nil] at complete
    rw [List.nil_append, List.append_nil, collected, if_pos complete,
      afterBytes_cons (s := s.receive _) hp]
    rfl
  | cons b rest ih =>
    intro taken complete
    have missing : taken.length ≠ len.toNat := by
      rw [List.length_append, List.length_cons] at complete
      omega
    have next : taken ++ b :: rest = taken ++ [b] ++ rest := List.append_cons _ _ _
    rw [next] at complete ⊢
    rw [← ih _ complete, collected, if_neg missing, List.cons_append, afterBytes_cons (s := s.receive _) hp]
    rfl

/-- A frame's bytes at a hunting receiver: the frame is handed on (R160 to R162). -/
theorem afterBytes_wire {s : State} {frame : Frame} (hp : s.powered = true) (hunting : s.link.receiver = .hunting)
    (short : frame.payload.length ≤ 48) :
    afterBytes s frame.wire = .next ((s.receive .hunting).handOn frame (takeFrame frame)) := by
  have length : frame.len.toNat = frame.payload.length := by
    rw [Frame.len, BitVec.toNat_ofNat]
    omega
  have started : s.receiveByte 0xC5 = s.receive .wantLen := by
    simp only [State.receiveByte, hunting, if_true]
  have sized : (s.receive .wantLen).receiveByte frame.len = s.receive (.wantKind frame.len) :=
    if_neg (by rw [length]; exact not_lt.2 short)
  rw [Frame.wire, afterBytes_cons hp, started, afterBytes_cons (s := s.receive _) hp, sized,
    afterBytes_cons (s := s.receive _) hp, ← State.checkFrame_valid frame.sum_check s]
  exact afterBytes_payload hp _ _ _ _ [] length.symm

end Sys2Proof.Machine

open Sys2Proof Sys2Proof.Machine

/-- Settles O8: the bytes hand the frame on, as its request's command does, which the frame asks for. -/
theorem wireBytesServeTheirRequest : Obligations.WireBytesServeTheirRequest := by
  unfold Obligations.WireBytesServeTheirRequest
  intro i frame s hw hf hp _ hunting _
  have short := requestPayload_length i frame hf
  have heard : s.receive .hunting = { s with link := { s.link with gap := 0 } } := by
    rw [State.receive, ← hunting]
  rw [afterBytes_wire hp hunting (by omega), ← heard]
  exact (exec_of_asks (s := s.receive .hunting) hp (Frame.asks_of_frameOf? hw hf)).symm

end

section
/-! SUPPORT. The receiver's errors and its valid frames: what a byte and a frame leave of the link (R161, R162). -/

namespace Sys2Proof.Machine

/-! ### Errors -/

theorem State.queueError_eq (s : State) (status : Status) : s.queueError status = { s with link := { s.link with
    outbox := if s.link.outbox.any Outgoing.isError = true then s.link.outbox
      else s.link.outbox ++ [.frameError status] } } := by
  unfold State.queueError
  split <;> rfl

theorem exec_frameReceived {s : State} {len : Byte} {frame : Frame} (hp : s.powered = true)
    (due : s.link.receiver = .wantCheck len frame) (chk : Byte) :
    exec (.frameReceived chk) s = .next (s.checkFrame len frame chk) := by
  simp only [exec, execFrameReceived, State.whenPowered_on _ _ hp, due]

theorem exec_byteReceived_check {s : State} {len : Byte} {frame : Frame} (hp : s.powered = true)
    (due : s.link.receiver = .wantCheck len frame) (chk : Byte) :
    exec (.byteReceived chk) s = .next (s.checkFrame len frame chk) := by
  simp only [exec_byteReceived s chk hp, State.receiveByte, due]

theorem exec_frameBadLength {s : State} {len : Byte} (hp : s.powered = true) (due : s.link.receiver = .wantLen)
    (long : 48 < len.toNat) : exec (.frameBadLength len) s = .next s.refuseLength := by
  simp only [exec, execFrameBadLength, State.whenPowered_on _ _ hp]
  exact congrArg _ (if_pos ⟨due, long⟩)

theorem exec_byteReceived_length {s : State} {len : Byte} (hp : s.powered = true) (due : s.link.receiver = .wantLen)
    (long : 48 < len.toNat) : exec (.byteReceived len) s = .next s.refuseLength := by
  simp only [exec_byteReceived s len hp, State.receiveByte, due]
  exact congrArg _ (if_pos long)

/-! ### Handing a frame on -/

theorem State.handOn_free {s : State} (free : s.link.served = none) (stays : s.restarting = false) (frame : Frame)
    (take : State → State × Reply) : s.handOn frame take = s.validFrame.answer frame take appendReply := by
  simp [State.handOn, free, stays]

/-- A frame that must wait is not taken, so that it does not matter what its taking would do. -/
theorem State.handOn_waits {s : State} (waits : s.link.served ≠ none ∨ s.restarting = true) (frame : Frame)
    (take : State → State × Reply) : s.handOn frame take = s.validFrame.holdPending frame := by
  have busy : (s.validFrame.link.served.isSome || s.validFrame.restarting) = true := by
    simpa [Option.isSome_iff_ne_none] using waits
  exact if_pos busy

/-- A frame that is refused when it is taken is answered so, and nothing else changes. -/
theorem State.handOn_refuses {s : State} (free : s.link.served = none) (stays : s.restarting = false)
    (awake : s.link.limp = false) (frame : Frame) (status : Status) :
    s.handOn frame (refuse status) = s.answered frame (u8 status.code) := by
  rw [State.handOn_free free stays, State.validFrame_of_not_limp _ awake]
  rfl

/-- What answering a frame leaves of the link: the frame is the served frame, its reply stands behind those that wait. -/
theorem State.handOn_link {s : State} (free : s.link.served = none) (stays : s.restarting = false) (frame : Frame)
    {take : State → State × Reply} (kept : ∀ s, (take s).1.link = s.link) :
    ∃ payload, (∀ status, take = refuse status → payload = u8 status.code)
      ∧ (s.handOn frame take).link = { s.link with
        timer := 0, limp := false, served := some frame
        outbox := s.link.outbox ++ [.reply ⟨frame.kind + 0x80, payload⟩] } := by
  refine ⟨(take { s.validFrame with link := { s.validFrame.link with served := some frame } }).2,
    fun status e => ?_, ?_⟩
  · rw [e]
    rfl
  · rw [State.handOn_free free stays, State.answer_eq]
    dsimp only
    rw [kept, State.validFrame_link]
    rfl

end Sys2Proof.Machine

open Sys2Proof Sys2Proof.Machine

/-- Settles O11: each byte is one case of the receiver, and a FRAME_ERROR is queued by `State.queueError`. -/
theorem frameErrorsLeaveTheRestAlone : Obligations.FrameErrorsLeaveTheRestAlone := by
  unfold Obligations.FrameErrorsLeaveTheRestAlone
  intro s hp after
  have queued : ∀ status, (s.receive .hunting).queueError status = after (some status) :=
    (s.receive .hunting).queueError_eq
  refine ⟨?_, fun b hunting other => ?_, fun hunting => ?_, fun len due long => ?_, fun len chk frame due wrong => ?_⟩
  · simp only [exec, execFrameGapTimeout, State.whenPowered_on _ _ hp]
    rfl
  · simp only [exec_byteReceived s b hp, State.receiveByte, hunting, other, if_false]
  · simp only [exec_byteReceived s _ hp, State.receiveByte, hunting, if_true]
    rfl
  · rw [exec_frameBadLength hp due long, exec_byteReceived_length hp due long, ← queued]
    exact ⟨rfl, rfl⟩
  · rw [exec_frameReceived hp due, exec_byteReceived_check hp due, State.checkFrame_invalid wrong, queued]
    exact ⟨rfl, rfl⟩

/-- Settles O12: the check hands the frame on, which answers it or lets it wait. -/
theorem validFrameIsServedOrWaits : Obligations.ValidFrameIsServedOrWaits := by
  unfold Obligations.ValidFrameIsServedOrWaits
  intro s len chk frame hp due right heard
  have handed : exec (.frameReceived chk) s = .next (heard.handOn frame (takeFrame frame)) := by
    rw [exec_frameReceived hp due, State.checkFrame_valid right]
    rfl
  rw [handed]
  refine ⟨fun free stays => ⟨fun i asks => (exec_of_asks (s := heard) hp asks).symm,
    fun awake => ⟨fun n known wrong => ?_, fun unknown => ?_⟩, ?_⟩, fun waits i sent => ?_, fun waits awake => ?_⟩
  · rw [takeFrame_of_badLength known wrong]
    exact congrArg _ (State.handOn_refuses (s := heard) free stays awake frame .badLength)
  · rw [takeFrame_of_unknownKind unknown]
    exact congrArg _ (State.handOn_refuses (s := heard) free stays awake frame .unknownKind)
  · obtain ⟨payload, refused, link⟩ := State.handOn_link (s := heard) free stays frame (takeFrame_link frame)
    exact ⟨_, payload, rfl, link, fun n known wrong => refused _ (takeFrame_of_badLength known wrong),
      fun unknown => refused _ (takeFrame_of_unknownKind unknown)⟩
  · obtain ⟨take, hk, -⟩ := exec_request i frame sent
    rw [exec_handsOn (s := heard) hp sent hk, State.handOn_waits (s := heard) waits,
      State.handOn_waits (s := heard) waits]
  · have held : heard.handOn frame (takeFrame frame)
        = ({ heard with link := { heard.link with timer := 0 } } : State).holdPending frame := by
      rw [State.handOn_waits (s := heard) waits, State.validFrame_of_not_limp heard awake]
    exact congrArg _ (held.trans (State.holdPending_eq _ frame))

end

section
/-! SUPPORT. The take of a request looks at nothing of the link but LIMP, so that a request taken on behalf of a pending
frame does what it does on its arrival, the link timer apart (R162, R166). -/

namespace Sys2Proof.Machine

section
variable (s : State) (l : Link)

@[simp] theorem State.relinked_tables : (s.relinked l).tables = s.tables := rfl
@[simp] theorem State.relinked_reservation : (s.relinked l).reservation = s.reservation := rfl
@[simp] theorem State.relinked_mode (f : Fn) : (s.relinked l).mode f = s.mode f := rfl
@[simp] theorem State.relinked_channel (c : Fin 16) : (s.relinked l).channel c = s.channel c := rfl
@[simp] theorem State.relinked_mapEntry (e : Fin 16) : (s.relinked l).mapEntry e = s.mapEntry e := rfl
@[simp] theorem State.relinked_gaugeConfig (g : Fin 4) : (s.relinked l).gaugeConfig g = s.gaugeConfig g := rfl

end

/-- The take leaves what it leaves under another link with the same LIMP, and answers the same. -/
def LooksAtLimpAlone (take : State → State × Reply) : Prop :=
  ∀ (s : State) (l : Link), l.limp = s.link.limp → take (s.relinked l) = ((take s).1.relinked l, (take s).2)

theorem State.raise_relinked (s : State) (l : Link) (e : Event) (detail : Nat) :
    (s.relinked l).raise e detail = (s.raise e detail).relinked l := rfl

theorem State.linkWrite_relinked (s : State) (l : Link) (f : Fn) (value : Nat) :
    (s.relinked l).linkWrite f value = (s.linkWrite f value).relinked l :=
  s.writeFn_relinked l f _

theorem State.cancelSide_relinked (s : State) (l : Link) (side : Side) :
    (s.relinked l).cancelSide side = (s.cancelSide side).relinked l := by
  unfold State.cancelSide
  dsimp only
  rw [State.relinked_fn, State.writeFn_relinked, State.raiseIfChanged_relinked, State.raise_relinked]

theorem State.expireIfDue_relinked (s : State) (l : Link) (side : Side) :
    (s.relinked l).expireIfDue side = (s.expireIfDue side).relinked l := by
  have timer : (s.relinked l).runOn side = s.runOn side := by cases side <;> rfl
  unfold State.expireIfDue
  rw [timer, State.relinked_settings, State.cancelSide_relinked]
  split
  · split <;> rfl
  · rfl

theorem State.changeFlasher_relinked (s : State) (l : Link) (rate limit : Nat) :
    (s.relinked l).changeFlasher rate limit = (s.changeFlasher rate limit).relinked l := by
  have set : ∀ u : State, ((u.relinked l).react.expireIfDue .left).expireIfDue .right
      = ((u.react.expireIfDue .left).expireIfDue .right).relinked l := fun u => by
    rw [State.react_relinked, State.expireIfDue_relinked, State.expireIfDue_relinked]
  exact set { s with settings := { s.settings with flashRate := rate, runOnLimit := limit } }

theorem State.fanOnFeed_relinked (s : State) (l : Link) (before : Bool) :
    (s.relinked l).fanOnFeed before = (s.fanOnFeed before).relinked l := by
  unfold State.fanOnFeed
  rw [State.relinked_settings, State.relinked_eff, State.relinked_eff, State.startSettle_relinked]
  dsimp only
  split_ifs <;> rfl

theorem State.settleWindowJudged_relinked (s : State) (l : Link) :
    (s.relinked l).settleWindowJudged = s.settleWindowJudged.relinked l := by
  rw [State.settleWindowJudged_eq, State.settleWindowJudged_eq]
  rfl

theorem State.changeFan_relinked (s : State) (l : Link) (cfg : FanConfig) :
    (s.relinked l).changeFan cfg = (s.changeFan cfg).relinked l := by
  have set : ∀ (u : State) before, ((u.relinked l).fanOnFeed before).settleWindowJudged.react
      = (u.fanOnFeed before).settleWindowJudged.react.relinked l := fun u before => by
    rw [State.fanOnFeed_relinked, State.settleWindowJudged_relinked, State.react_relinked]
  exact set { s with settings := { s.settings with fan := cfg } } _

theorem State.startProgramming_relinked (s : State) (l : Link) (image : Image) :
    (s.relinked l).startProgramming image = (s.startProgramming image).relinked l :=
  (s.beginProgramming image).storeFollow_relinked l

/-! ### The takes -/

theorem refuse_relinked (status : Status) (s : State) (l : Link) :
    refuse status (s.relinked l) = ((refuse status s).1.relinked l, (refuse status s).2) := rfl

theorem accept_relinked (s : State) (l : Link) (fields : List Byte) :
    accept (s.relinked l) fields = ((accept s fields).1.relinked l, (accept s fields).2) := rfl

theorem takeRestart_looksAtLimpAlone : LooksAtLimpAlone takeRestart := by
  intro s l _
  unfold takeRestart
  rw [State.relinked_store]
  split_ifs <;> rfl

theorem takeSetDemand_looksAtLimpAlone (function value : Nat) : LooksAtLimpAlone (takeSetDemand function value) := by
  intro s l _
  simp only [takeSetDemand, State.relinked_mode, State.linkWrite_relinked, State.relinked_eff, refuse_relinked,
    accept_relinked]
  split
  · rfl
  · split_ifs <;> rfl

theorem takeSetDemandIf_looksAtLimpAlone (function value : Nat) : LooksAtLimpAlone (takeSetDemandIf function value) := by
  intro s l _
  have cleared : ∀ (u : State) fields, accept { u.relinked l with reservation := none } fields
      = ((accept { u with reservation := none } fields).1.relinked l,
        (accept { u with reservation := none } fields).2) := fun _ _ => rfl
  simp only [takeSetDemandIf, State.relinked_mode, State.relinked_reservation, State.linkWrite_relinked,
    State.relinked_eff, refuse_relinked, cleared]
  split
  · rfl
  · split_ifs <;> rfl

theorem takeReleaseDemand_looksAtLimpAlone (function : Nat) : LooksAtLimpAlone (takeReleaseDemand function) := by
  intro s l _
  simp only [takeReleaseDemand, State.relinked_mode, State.relinked_fn, State.writeFn_relinked, State.relinked_eff,
    refuse_relinked, accept_relinked]
  split
  · rfl
  · split_ifs <;> rfl

theorem takeSetFunction_looksAtLimpAlone (function mode : Nat) : LooksAtLimpAlone (takeSetFunction function mode) := by
  intro s l _
  have moded : ∀ f m r, ((s.relinked l).withMode f m).writeFn f r = ((s.withMode f m).writeFn f r).relinked l :=
    fun f m r => (s.withMode f m).writeFn_relinked l f r
  simp only [takeSetFunction, State.relinked_fn, moded, State.relinked_eff, refuse_relinked, accept_relinked]
  split <;> rfl

theorem takeSetInput_looksAtLimpAlone (input function action level polarity debounce : Nat) :
    LooksAtLimpAlone (takeSetInput input function action level polarity debounce) := by
  intro s l limp
  simp only [takeSetInput, s.bindInput_relinked limp, refuse_relinked, accept_relinked]
  split <;> rfl

theorem takeSetMap_looksAtLimpAlone (entry role first last enabled : Nat) :
    LooksAtLimpAlone (takeSetMap entry role first last enabled) := by
  intro s l _
  have mapped : ∀ e m, ((s.relinked l).withMapEntry e m).react = (s.withMapEntry e m).react.relinked l :=
    fun e m => (s.withMapEntry e m).react_relinked l
  simp only [takeSetMap, State.relinked_mapEntry, mapped, refuse_relinked, accept_relinked]
  split
  · split_ifs <;> rfl
  · rfl

theorem takeSetRole_looksAtLimpAlone (role cls : Nat) : LooksAtLimpAlone (takeSetRole role cls) := by
  intro s l _
  have classed : ∀ r k, ((s.relinked l).withShedClass r k).react = (s.withShedClass r k).react.relinked l :=
    fun r k => (s.withShedClass r k).react_relinked l
  simp only [takeSetRole, classed, refuse_relinked, accept_relinked]
  split <;> rfl

theorem takeSetChannel_looksAtLimpAlone (channel profile inrush pullIn hold run limit openAt substitute : Nat) :
    LooksAtLimpAlone (takeSetChannel channel profile inrush pullIn hold run limit openAt substitute) := by
  intro s l _
  have configured : ∀ c k, ((s.relinked l).withChannelConfig c k).react = (s.withChannelConfig c k).react.relinked l :=
    fun c k => (s.withChannelConfig c k).react_relinked l
  simp only [takeSetChannel, State.relinked_channel, configured, refuse_relinked, accept_relinked]
  split
  · split_ifs <;> rfl
  · rfl

theorem takeClearChannel_looksAtLimpAlone (channel : Nat) : LooksAtLimpAlone (takeClearChannel channel) := by
  intro s l _
  have cleared : ∀ c, (s.relinked l).clearChannel c = (s.clearChannel c).relinked l :=
    fun c => (s.countCleared c).react_relinked l
  simp only [takeClearChannel, cleared, State.relinked_channel, refuse_relinked, accept_relinked]
  split <;> rfl

theorem takeSetFlasher_looksAtLimpAlone (rate runOn : Nat) : LooksAtLimpAlone (takeSetFlasher rate runOn) := by
  intro s l _
  rw [takeSetFlasher, State.changeFlasher_relinked, accept_relinked, takeSetFlasher]

theorem takeSetGaugePosition_looksAtLimpAlone (gauge position : Nat) :
    LooksAtLimpAlone (takeSetGaugePosition gauge position) := by
  intro s l _
  unfold takeSetGaugePosition
  split
  · rfl
  · rw [State.relinked_gaugeConfig]
    split_ifs <;> rfl

theorem takeSetFan_looksAtLimpAlone (duty0 duty1 duty2 duty3 ramp settle stall fed : Nat) :
    LooksAtLimpAlone (takeSetFan duty0 duty1 duty2 duty3 ramp settle stall fed) := by
  intro s l _
  simp only [takeSetFan, State.changeFan_relinked, refuse_relinked, accept_relinked]
  split <;> rfl

theorem takeSetSupply_looksAtLimpAlone (cls lean shed enter exit hysteresis margin minimum budget : Nat) :
    LooksAtLimpAlone (takeSetSupply cls lean shed enter exit hysteresis margin minimum budget) := by
  intro s l _
  have changed : ∀ cfg, (s.relinked l).changeSupply cfg = (s.changeSupply cfg).relinked l := fun cfg =>
    ({ s with settings := { s.settings with supply := cfg } } : State).react_relinked l
  simp only [takeSetSupply, changed, refuse_relinked, accept_relinked]
  split
  · rfl
  · split_ifs <;> rfl

theorem takeTablePoint_looksAtLimpAlone (x y : Nat) : LooksAtLimpAlone (takeTablePoint x y) := by
  intro s l _
  simp only [takeTablePoint, State.relinked_store]
  split
  · rfl
  · split_ifs <;> rfl

theorem takeTableCommit_looksAtLimpAlone (length : Nat) : LooksAtLimpAlone (takeTableCommit length) := by
  intro s l _
  have begun : ∀ image, ((s.relinked l).withStaging none).startProgramming image
      = ((s.withStaging none).startProgramming image).relinked l :=
    fun image => (s.withStaging none).startProgramming_relinked l image
  simp only [takeTableCommit, State.relinked_store, begun, refuse_relinked, accept_relinked]
  split
  · rfl
  · split_ifs <;> rfl

theorem takeTableRead_looksAtLimpAlone (table index : Nat) : LooksAtLimpAlone (takeTableRead table index) := by
  intro s l _
  unfold takeTableRead
  split
  · rfl
  · rw [State.relinked_tables]
    split <;> rfl

theorem takeSaveSettings_looksAtLimpAlone : LooksAtLimpAlone takeSaveSettings := by
  intro s l _
  simp only [takeSaveSettings, State.relinked_store, State.relinked_settings, State.startProgramming_relinked,
    refuse_relinked, accept_relinked]
  split_ifs <;> rfl

/-- Every request's take looks at LIMP alone: those without a lemma of their own read and write other fields, and nothing
reacts to them. -/
theorem takeRequest_looksAtLimpAlone {i : Instr} {take : State → State × Reply} (h : takeRequest i = some take) :
    LooksAtLimpAlone take := by
  cases i <;> simp only [takeRequest, reduceCtorEq, Option.some.injEq] at h <;> subst h
  case hello | readEvents | setAttnLevel | setLinkTimeout | readFlasher | readFan | readStore => exact fun _ _ _ => rfl
  case restart => exact takeRestart_looksAtLimpAlone
  case setDemand => exact takeSetDemand_looksAtLimpAlone _ _
  case setDemandIf => exact takeSetDemandIf_looksAtLimpAlone _ _
  case releaseDemand => exact takeReleaseDemand_looksAtLimpAlone _
  case setFunction => exact takeSetFunction_looksAtLimpAlone _ _
  case setInput => exact takeSetInput_looksAtLimpAlone _ _ _ _ _ _
  case setMap => exact takeSetMap_looksAtLimpAlone _ _ _ _ _
  case setRole => exact takeSetRole_looksAtLimpAlone _ _
  case setChannel => exact takeSetChannel_looksAtLimpAlone _ _ _ _ _ _ _ _ _
  case clearChannel => exact takeClearChannel_looksAtLimpAlone _
  case setFlasher => exact takeSetFlasher_looksAtLimpAlone _ _
  case setGaugePosition => exact takeSetGaugePosition_looksAtLimpAlone _ _
  case setFan => exact takeSetFan_looksAtLimpAlone _ _ _ _ _ _ _ _
  case setSupply => exact takeSetSupply_looksAtLimpAlone _ _ _ _ _ _ _ _ _
  case tablePoint => exact takeTablePoint_looksAtLimpAlone _ _
  case tableCommit => exact takeTableCommit_looksAtLimpAlone _
  case tableRead => exact takeTableRead_looksAtLimpAlone _ _
  case saveSettings => exact takeSaveSettings_looksAtLimpAlone
  case setEvent | readDemand | readInputs | readMap | readChannel | setGauge | readGauge | setSender | readSender
      | readSupply | tableOpen =>
    intro s l _
    dsimp only [takeSetEvent, takeReadDemand, takeReadInputs, takeReadMap, takeReadChannel, takeSetGauge, takeReadGauge,
      takeSetSender, takeReadSender, takeReadSupply, takeTableOpen]
    repeat' split
    all_goals rfl

/-- Whatever a frame asks for, its take looks at LIMP alone. -/
theorem takeFrame_looksAtLimpAlone (frame : Frame) : LooksAtLimpAlone (takeFrame frame) := by
  intro s l limp
  unfold takeFrame
  split
  · rfl
  · rfl
  · split
    · exact takeRequest_looksAtLimpAlone (by assumption) s l limp
    · rfl

end Sys2Proof.Machine

end

section
/-! SUPPORT. The transmitter: what is sent first, and how the pending frame is taken when the served place is free (R162,
R163, log 16). -/

namespace Sys2Proof.Machine

/-! ### What is sent, and the place a reply takes -/

/-- A FRAME_ERROR is sent though places kept for later replies stand before it (log 16). -/
theorem sendFirst_frameError (n : Nat) (status : Status) (rest : List Outgoing) :
    sendFirst (List.replicate n .awaited ++ .frameError status :: rest)
      = some (.frameError status, List.replicate n .awaited ++ rest) := by
  induction n with
  | zero => rfl
  | succ n ih => rw [List.replicate_succ, List.cons_append, sendFirst, ih]; rfl

/-- A place kept for a later reply has nothing to send (log 34). -/
theorem sendFirst_awaited (n : Nat) : sendFirst (List.replicate n .awaited) = none := by
  induction n with
  | zero => rfl
  | succ n ih => rw [List.replicate_succ, sendFirst, ih]; rfl

/-- A reply takes the first place kept for one (R163). -/
theorem fillAwaited_first (reply : Frame) {before : List Outgoing} (h : .awaited ∉ before) (after : List Outgoing) :
    fillAwaited reply (before ++ .awaited :: after) = before ++ .reply reply :: after := by
  induction before with
  | nil => rfl
  | cons o before ih =>
    obtain ⟨other, none⟩ := not_or.1 (List.mem_cons.not.1 h)
    cases o with
    | awaited => exact absurd rfl other
    | reply | frameError => exact congrArg (List.cons _) (ih none)

/-! ### The command -/

theorem exec_replySent {s : State} (hp : s.powered = true) : exec .replySent s = .next s.sendReply := by
  simp only [exec, execReplySent, State.whenPowered_on _ _ hp]

theorem State.sendReply_frameError {s : State} {status : Status} {rest : List Outgoing}
    (h : sendFirst s.link.outbox = some (.frameError status, rest)) :
    s.sendReply = { s with link := { s.link with outbox := rest } } := by
  simp only [State.sendReply, h, Outgoing.frameError_isReply, Bool.false_eq_true, if_false]

theorem State.sendReply_none {s : State} (h : sendFirst s.link.outbox = none) : s.sendReply = s := by
  simp only [State.sendReply, h]

theorem State.sendReply_reply {s : State} {reply : Frame} {rest : List Outgoing}
    (h : s.link.outbox = .reply reply :: rest) :
    s.sendReply = ({ s with link := { s.link with outbox := rest } } : State).serveNext := by
  simp only [State.sendReply, h, sendFirst, Outgoing.reply_isReply, if_true]

/-- The served place stays free where no frame is pending or a restart is to come (R162, R165). -/
theorem State.serveNext_frees {s : State} (h : s.link.pendingFrame = none ∨ s.restarting = true) :
    s.serveNext = { s with link := { s.link with served := none } } := by
  unfold State.serveNext
  split
  · rename_i frame pending
    rw [if_pos (h.resolve_left (by rw [pending]; nofun))]
  · rfl

/-- The pending frame becomes the served frame (R162). -/
theorem State.serveNext_serves {s : State} {frame : Frame} (h : s.link.pendingFrame = some frame)
    (stays : s.restarting = false) : s.serveNext
      = ({ s with link := { s.link with served := none, pendingFrame := none } } : State).answer frame (takeFrame frame)
        fillAwaited := by
  simp only [State.serveNext, h, stays, Bool.false_eq_true, if_false]

/-- An answered frame: what its take leaves, with the link as the answering leaves it. -/
theorem State.answer_placed (s : State) (frame : Frame) {take : State → State × Reply}
    (kept : ∀ s, (take s).1.link = s.link) (place : Frame → List Outgoing → List Outgoing) :
    let r := take { s with link := { s.link with served := some frame } }
    s.answer frame take place = { r.1 with link := { s.link with
      served := some frame, outbox := place (frame.replyWith r.2) s.link.outbox } } := by
  dsimp only
  rw [State.answer_eq]
  dsimp only
  rw [kept]

end Sys2Proof.Machine

open Sys2Proof Sys2Proof.Machine

/-- Settles O13: with the served frame's reply the pending frame is answered in the place kept for it, and its take does
what it does on the frame's arrival, since it looks at no timer of the link. -/
theorem sentReplyFreesTheServedPlace : Obligations.SentReplyFreesTheServedPlace := by
  unfold Obligations.SentReplyFreesTheServedPlace
  intro s hp
  refine ⟨fun n status rest out => ?_, fun n out => ?_, fun reply rest out => ?_⟩
  · rw [exec_replySent hp, State.sendReply_frameError (by rw [out]; exact sendFirst_frameError n status rest)]
  · rw [exec_replySent hp, State.sendReply_none (by rw [out]; exact sendFirst_awaited n)]
  intro freed
  refine ⟨fun idle => ?_, ?_⟩
  · rw [exec_replySent hp]
    exact congrArg _ ((State.sendReply_reply out).trans (State.serveNext_frees idle))
  · intro frame before after pending stays place first taken placed
    have filled : ∀ payload, fillAwaited (frame.replyWith payload) taken.link.outbox
        = before ++ .reply ⟨frame.kind + 0x80, payload⟩ :: after := fun payload => by
      change fillAwaited _ rest = _
      rw [place, fillAwaited_first _ first]
      rfl
    let served : State := { taken with link := { taken.link with served := some frame } }
    have answered : exec .replySent s = .next (placed (takeFrame frame served).1 (takeFrame frame served).2) := by
      have sent : s.sendReply = taken.answer frame (takeFrame frame) fillAwaited :=
        (State.sendReply_reply out).trans (State.serveNext_serves pending stays)
      rw [exec_replySent hp, sent, taken.answer_placed frame (takeFrame_link frame), filled]
    rw [answered]
    refine ⟨⟨_, _, rfl, rfl⟩, fun i asks awake => ?_, fun n known wrong => ?_, fun unknown => ?_⟩
    · have arrival := takeFrame_looksAtLimpAlone frame served { served.link with timer := 0 } rfl
      have arrived : exec i taken = .next (taken.handOn frame (takeFrame frame)) := exec_of_asks (s := taken) hp asks
      rw [State.handOn_free (s := taken) rfl stays, State.validFrame_of_not_limp taken awake,
        State.answer_placed _ frame (takeFrame_link frame)] at arrived
      refine ⟨_, (takeFrame frame served).2, arrived, ?_, ?_⟩
      · change _ ++ [Outgoing.reply (frame.replyWith (takeFrame frame (served.relinked _)).2)] = _
        rw [arrival]
        rfl
      · change _ = Host.Outcome.next (placed (takeFrame frame (served.relinked _)).1 _)
        rw [arrival]
        rfl
    · rw [takeFrame_of_badLength known wrong]
      rfl
    · rw [takeFrame_of_unknownKind unknown]
      rfl

end

section
/-! SUPPORT. The requests of the link block: what their takes accept and refuse (R164 to R166, R171, R172), and the ATTN line
(R170). -/

namespace Sys2Proof.Machine

/-! ### HELLO, RESTART and the unknown kinds -/

theorem takeHello_eq (s : State) : takeHello s = (s, [0x00, 0x16, 0x04, 0x41, 0x01,
    match s.settings.supply.cls with
    | .volt12 => 0x00
    | .volt6 => 0x01]) := by
  rw [takeHello]
  cases s.settings.supply.cls <;> rfl

theorem takeRestart_accepts {s : State} (idle : s.store.programming = none) :
    takeRestart s = accept { s with restarting := true } [] := by
  rw [takeRestart, idle]
  rfl

theorem takeRestart_refuses {s : State} (busy : s.store.programming ≠ none) : takeRestart s = (s, u8 0x06) :=
  if_pos (Option.isSome_iff_ne_none.2 busy)

theorem exec_unknownKindRequest {s : State} (hp : s.powered = true) {kind : Byte} (h : requestLength kind = none) :
    exec (.unknownKindRequest kind) s = .next (s.handOn ⟨kind, []⟩ (refuse .unknownKind)) := by
  simp only [exec, execUnknownKindRequest, State.whenPowered_on _ _ hp, h, Option.isSome_none, Bool.false_eq_true,
    if_false]

/-! ### Events and ATTN -/

theorem takeReadEvents_eq (s : State) : takeReadEvents s = accept s.clearFlags
    (((List.finRange 16).filter fun e => (s.events[e]).flag).flatMap fun e =>
      [BitVec.ofNat 8 e.val, BitVec.ofNat 8 (s.events[e]).detail]) := rfl

/-- Clearing the flags keeps every detail (R171). -/
theorem State.clearFlags_event (s : State) (e : Event) : s.clearFlags.event e = { s.event e with flag := false } := by
  simp [State.clearFlags, State.event]

/-- ATTN is low exactly while an event calls for it (R170). -/
theorem State.attnLow_iff (s : State) : s.attnLow = true ↔ ∃ e : Fin 16, (s.events[e]).flag = true
    ∧ (s.settings.events[e]).enable = true ∧ s.settings.attnThreshold < (s.settings.events[e]).level := by
  simp only [State.attnLow, List.any_eq_true, List.mem_finRange, true_and, Bool.and_eq_true, decide_eq_true_eq,
    and_assoc]

/-- With every flag clear ATTN is released (R170). -/
theorem State.attnLow_of_no_flag {s : State} (h : ∀ e : Fin 16, (s.events[e]).flag = false) : s.attnLow = false :=
  Bool.eq_false_iff.2 fun low => by
    obtain ⟨e, flag, -⟩ := s.attnLow_iff.1 low
    rw [h e] at flag
    cases flag

theorem takeSetEvent_accepts (s : State) (e : Fin 16) (enable : Bool) (level : Nat) :
    takeSetEvent e.val (bit enable 1) level s = accept
      { s with settings := { s.settings with events := s.settings.events.set e ⟨enable, min level 7⟩ } }
      (u8 e.val ++ u8 (bit enable 1) ++ u8 (min level 7)) := by
  simp only [takeSetEvent, index?_val, truth?_bit, truth]

theorem takeSetAttnLevel_accepts (threshold : Nat) (s : State) : takeSetAttnLevel threshold s = accept
    { s with settings := { s.settings with attnThreshold := min threshold 7 } } (u8 (min threshold 7)) := rfl

theorem takeSetLinkTimeout_accepts (timeout : Nat) (s : State) :
    let taken := if timeout = 0 then 0 else max 500 (min 10000 timeout)
    takeSetLinkTimeout timeout s
      = accept { s with settings := { s.settings with linkTimeout := taken } } (u16 taken) := rfl

end Sys2Proof.Machine

open Sys2Proof Sys2Proof.Machine

/-- Settles O14: three takes' equations, and a frame that is refused when it is handed on. -/
theorem helloRestartAndUnknownKind : Obligations.HelloRestartAndUnknownKind := by
  unfold Obligations.HelloRestartAndUnknownKind
  intro s ha
  refine ⟨?_, fun idle => ?_, fun busy => ?_, fun kind unknown => ?_⟩
  · exact exec_answered ha rfl rfl (takeHello_eq (s.heard _))
  · exact exec_accepted ha rfl rfl (takeRestart_accepts (s := s.heard _) idle)
  · exact exec_answered ha rfl rfl (takeRestart_refuses (s := s.heard _) busy)
  · obtain ⟨powered, stays, awake, free⟩ := ha
    rw [exec_unknownKindRequest powered unknown, State.handOn_refuses free stays awake]
    rfl

/-- Settles O15: the accepted take is `State.clearFlags`, which clears each flag and nothing else. -/
theorem readEventsReturnsAndClearsFlags : Obligations.ReadEventsReturnsAndClearsFlags := by
  unfold Obligations.ReadEventsReturnsAndClearsFlags
  intro s ha
  refine ⟨_, exec_accepted ha rfl rfl (takeReadEvents_eq (s.heard ⟨0x08, []⟩)), rfl, fun e => ?_, ?_, rfl⟩
  · have cleared := (s.heard ⟨0x08, []⟩).clearFlags_event e
    have flag := congrArg EventRecord.flag cleared
    have detail := congrArg EventRecord.detail cleared
    exact ⟨flag, detail⟩
  · exact State.attnLow_of_no_flag fun e => by simp [State.clearFlags]

/-- Settles O16: three accepted changes of the settings, and the rule of ATTN. -/
theorem attentionSettingsAreTaken : Obligations.AttentionSettingsAreTaken := by
  unfold Obligations.AttentionSettingsAreTaken
  intro s ha
  refine ⟨fun e enable level => ?_, fun threshold => ?_, fun timeout => ?_, s.attnLow_iff⟩
  · exact exec_accepted ha rfl rfl (takeSetEvent_accepts (s.heard _) e enable level)
  · exact exec_accepted ha rfl rfl (takeSetAttnLevel_accepts threshold (s.heard _))
  · exact exec_accepted ha rfl rfl (takeSetLinkTimeout_accepts timeout (s.heard _))

end

section
/-! SUPPORT. The ranges of a request's numbers: what each field accepts, and the refusal of a number out of range (R163,
R174). -/

namespace Sys2Proof.Machine

/-! ### What a field accepts -/

theorem index?_bound {n k : Nat} {i : Fin n} (h : index? n k = some i) : k < n := by
  unfold index? at h
  split at h
  · assumption
  · cases h

theorem index?_ge {n k : Nat} (h : n ≤ k) : index? n k = none := dif_neg (not_lt.2 h)

theorem function?_bound {k : Nat} {f : Fn} (h : function? k = some f) : k < 13 := by
  obtain ⟨i, found, -⟩ := Option.map_eq_some_iff.1 h
  exact index?_bound found

theorem role?_bound {k : Nat} {r : Role} (h : role? k = some r) : k < 15 := by
  obtain ⟨i, found, -⟩ := Option.map_eq_some_iff.1 h
  exact index?_bound found

/-- A field that may be absent accepts 0xFF beside what it reads (R174). -/
theorem orNone?_bound {α : Type} {read : Nat → Option α} {bound k : Nat} {x : Option α}
    (reads : ∀ {a}, read k = some a → k < bound) (h : orNone? read k = some x) : k = 0xFF ∨ k < bound := by
  unfold orNone? at h
  split at h
  · exact .inl (by assumption)
  · obtain ⟨a, found, -⟩ := Option.map_eq_some_iff.1 h
    exact .inr (reads found)

/-- A field of an enumerated value accepts the codes below a bound, where it refuses every number from that bound on. -/
theorem code_bound {α : Type} {read : Nat → Option α} {bound n : Nat} {a : α} (beyond : ∀ k, read (k + bound) = none)
    (h : read n = some a) : n < bound := by
  by_contra outside
  rw [← Nat.sub_add_cancel (not_lt.1 outside), beyond] at h
  cases h

theorem truth?_bound {n : Nat} {b : Bool} (h : truth? n = some b) : n < 2 := code_bound (fun _ => rfl) h

theorem action?_bound {n : Nat} {a : Action} (h : action? n = some a) : n < 3 := code_bound (fun _ => rfl) h

theorem polarity?_bound {n : Nat} {p : Polarity} (h : polarity? n = some p) : n < 2 := code_bound (fun _ => rfl) h

theorem profile?_bound {n : Nat} {p : Profile} (h : profile? n = some p) : n < 3 := code_bound (fun _ => rfl) h

theorem law?_bound {n : Nat} {l : Law} (h : law? n = some l) : n < 2 := code_bound (fun _ => rfl) h

theorem policy?_bound {n : Nat} {p : Policy} (h : policy? n = some p) : n < 3 := code_bound (fun _ => rfl) h

theorem systemClass?_bound {n : Nat} {c : SystemClass} (h : systemClass? n = some c) : n < 2 :=
  code_bound (fun _ => rfl) h

theorem truth?_ge {n : Nat} (h : 2 ≤ n) : truth? n = none := by
  match n, h with
  | _ + 2, _ => rfl

/-- A binding is read from a function's number or 0xFF, an action and a polarity (R4). -/
theorem bindingOf?_bound {f a level p debounce : Nat} {b : Binding} (h : bindingOf? f a level p debounce = some b) :
    (f = 0xFF ∨ f < 13) ∧ a < 3 ∧ p < 2 := by
  unfold bindingOf? at h
  split at h
  · rename_i function action polarity
    exact ⟨orNone?_bound function?_bound function, action?_bound action, polarity?_bound polarity⟩
  · cases h

/-! ### Requests on functions and inputs -/

theorem takeReadDemand_refuses {f reserve : Nat} (h : 13 ≤ f ∨ 2 ≤ reserve) (s : State) :
    takeReadDemand f reserve s = (s, u8 0x04) := by
  unfold takeReadDemand
  split
  · rename_i found flag
    have := function?_bound found
    have := truth?_bound flag
    omega
  · rfl

theorem takeSetDemand_refuses_number {f : Nat} (h : 13 ≤ f) (value : Nat) (s : State) :
    takeSetDemand f value s = (s, u8 0x04) := by
  rw [takeSetDemand, function?_lt h]
  rfl

theorem takeReleaseDemand_refuses_number {f : Nat} (h : 13 ≤ f) (s : State) : takeReleaseDemand f s = (s, u8 0x04) := by
  rw [takeReleaseDemand, function?_lt h]
  rfl

theorem takeSetInput_refuses {i f action polarity : Nat}
    (h : 12 ≤ i ∨ (13 ≤ f ∧ f ≠ 0xFF) ∨ 3 ≤ action ∨ 2 ≤ polarity) (level debounce : Nat) (s : State) :
    takeSetInput i f action level polarity debounce s = (s, u8 0x04) := by
  unfold takeSetInput
  split
  · rename_i found bound
    have := index?_bound found
    have := bindingOf?_bound bound
    omega
  · rfl

theorem takeReadInputs_refuses {i : Nat} (h : 12 ≤ i) (s : State) : takeReadInputs i s = (s, u8 0x04) := by
  rw [takeReadInputs, index?_ge h]
  rfl

/-! ### Requests on the map, the roles and the channels -/

theorem takeSetMap_refuses {e r a b on : Nat} (h : 16 ≤ e ∨ 15 ≤ r ∨ 16 ≤ a ∨ 16 ≤ b ∨ 2 ≤ on) (s : State) :
    takeSetMap e r a b on s = (s, u8 0x04) := by
  unfold takeSetMap
  split
  · rename_i entry role first last enabled
    have := index?_bound entry
    have := role?_bound role
    have := index?_bound first
    have := index?_bound last
    have := truth?_bound enabled
    omega
  · rfl

theorem takeReadMap_refuses {e : Nat} (h : 16 ≤ e) (s : State) : takeReadMap e s = (s, u8 0x04) := by
  rw [takeReadMap, index?_ge h]
  rfl

theorem takeSetRole_refuses {r : Nat} (h : 15 ≤ r) (cls : Nat) (s : State) : takeSetRole r cls s = (s, u8 0x04) := by
  rw [takeSetRole, role?, index?_ge h]
  rfl

theorem takeSetChannel_refuses {c p x : Nat} (h : 16 ≤ c ∨ 3 ≤ p ∨ (16 ≤ x ∧ x ≠ 0xFF))
    (inrush pullIn hold run limit openAt : Nat) (s : State) :
    takeSetChannel c p inrush pullIn hold run limit openAt x s = (s, u8 0x04) := by
  unfold takeSetChannel
  split
  · rename_i channel profile substitute
    have := index?_bound channel
    have := profile?_bound profile
    have := orNone?_bound index?_bound substitute
    omega
  · rfl

theorem takeReadChannel_refuses {c : Nat} (h : 16 ≤ c) (s : State) : takeReadChannel c s = (s, u8 0x04) := by
  rw [takeReadChannel, index?_ge h]
  rfl

/-! ### Requests on events, gauges and senders -/

theorem takeSetEvent_refuses {e on : Nat} (h : 16 ≤ e ∨ 2 ≤ on) (level : Nat) (s : State) :
    takeSetEvent e on level s = (s, u8 0x04) := by
  unfold takeSetEvent
  split
  · rename_i event enable
    have := index?_bound event
    have := truth?_bound enable
    omega
  · rfl

theorem takeSetGauge_refuses {g n law policy : Nat} (h : 4 ≤ g ∨ (4 ≤ n ∧ n ≠ 0xFF) ∨ 2 ≤ law ∨ 3 ≤ policy) (k : Nat)
    (s : State) : takeSetGauge g n law k policy s = (s, u8 0x04) := by
  unfold takeSetGauge
  split
  · rename_i gauge binding law policy
    have := index?_bound gauge
    have := orNone?_bound index?_bound binding
    have := law?_bound law
    have := policy?_bound policy
    omega
  · rfl

theorem takeReadGauge_refuses {g clear : Nat} (h : 4 ≤ g ∨ 2 ≤ clear) (s : State) :
    takeReadGauge g clear s = (s, u8 0x04) := by
  unfold takeReadGauge
  split
  · rename_i gauge clear
    have := index?_bound gauge
    have := truth?_bound clear
    omega
  · rfl

theorem takeSetGaugePosition_refuses_number {g : Nat} (h : 4 ≤ g) (position : Nat) (s : State) :
    takeSetGaugePosition g position s = (s, u8 0x04) := by
  rw [takeSetGaugePosition, index?_ge h]
  rfl

theorem takeSetSender_refuses {n : Nat} (h : 4 ≤ n) (short openAt : Nat) (s : State) :
    takeSetSender n short openAt s = (s, u8 0x04) := by
  rw [takeSetSender, index?_ge h]
  rfl

theorem takeReadSender_refuses {n : Nat} (h : 4 ≤ n) (s : State) : takeReadSender n s = (s, u8 0x04) := by
  rw [takeReadSender, index?_ge h]
  rfl

/-! ### Requests on the fan, the supply watch and the tables -/

theorem takeSetFan_refuses {fed : Nat} (h : 2 ≤ fed) (duty0 duty1 duty2 duty3 ramp settle stall : Nat) (s : State) :
    takeSetFan duty0 duty1 duty2 duty3 ramp settle stall fed s = (s, u8 0x04) := by
  rw [takeSetFan, truth?_ge h]
  rfl

theorem takeSetSupply_refuses_class {cls : Nat} (h : 2 ≤ cls)
    (lean shed enter exit hysteresis margin minimum budget : Nat) (s : State) :
    takeSetSupply cls lean shed enter exit hysteresis margin minimum budget s = (s, u8 0x04) := by
  unfold takeSetSupply
  split
  · rfl
  · rename_i found
    have := systemClass?_bound found
    omega

theorem takeReadSupply_refuses {clear : Nat} (h : 2 ≤ clear) (s : State) : takeReadSupply clear s = (s, u8 0x04) := by
  rw [takeReadSupply, truth?_ge h]
  rfl

theorem takeTableOpen_refuses {p start : Nat} (h : 8 ≤ p ∨ 16 ≤ start) (s : State) :
    takeTableOpen p start s = (s, u8 0x04) := by
  unfold takeTableOpen
  split
  · rfl
  · rename_i table
    have := index?_bound table
    rw [if_pos (by omega)]
    rfl

theorem takeTableRead_refuses {p : Nat} (h : 8 ≤ p) (index : Nat) (s : State) :
    takeTableRead p index s = (s, u8 0x04) := by
  rw [takeTableRead, index?_ge h]
  rfl

end Sys2Proof.Machine

open Sys2Proof Sys2Proof.Machine

/-- Settles O54: request by request, the take refuses the number and changes nothing. -/
theorem numbersOutOfRangeAreRefused : Obligations.NumbersOutOfRangeAreRefused := by
  unfold Obligations.NumbersOutOfRangeAreRefused
  intro s ha command frame hf out
  cases command
  case readDemand => exact exec_answered ha hf rfl (takeReadDemand_refuses out _)
  case setDemand => exact exec_answered ha hf rfl (takeSetDemand_refuses_number out _ _)
  case setDemandIf => exact exec_answered ha hf rfl (takeSetDemandIf_refuses_number out _ _)
  case releaseDemand => exact exec_answered ha hf rfl (takeReleaseDemand_refuses_number out _)
  case setFunction => exact exec_answered ha hf rfl (takeSetFunction_refuses out _)
  case setInput => exact exec_answered ha hf rfl (takeSetInput_refuses out _ _ _)
  case readInputs => exact exec_answered ha hf rfl (takeReadInputs_refuses out _)
  case setMap => exact exec_answered ha hf rfl (takeSetMap_refuses out _)
  case readMap => exact exec_answered ha hf rfl (takeReadMap_refuses out _)
  case setRole => exact exec_answered ha hf rfl (takeSetRole_refuses out _ _)
  case setChannel => exact exec_answered ha hf rfl (takeSetChannel_refuses out _ _ _ _ _ _ _)
  case readChannel => exact exec_answered ha hf rfl (takeReadChannel_refuses out _)
  case clearChannel => exact exec_answered ha hf rfl (takeClearChannel_refuses out _)
  case setEvent => exact exec_answered ha hf rfl (takeSetEvent_refuses out _ _)
  case setGauge => exact exec_answered ha hf rfl (takeSetGauge_refuses out _ _)
  case readGauge => exact exec_answered ha hf rfl (takeReadGauge_refuses out _)
  case setGaugePosition => exact exec_answered ha hf rfl (takeSetGaugePosition_refuses_number out _ _)
  case setSender => exact exec_answered ha hf rfl (takeSetSender_refuses out _ _ _)
  case readSender => exact exec_answered ha hf rfl (takeReadSender_refuses out _)
  case setFan => exact exec_answered ha hf rfl (takeSetFan_refuses out _ _ _ _ _ _ _ _)
  case setSupply => exact exec_answered ha hf rfl (takeSetSupply_refuses_class out _ _ _ _ _ _ _ _ _)
  case readSupply => exact exec_answered ha hf rfl (takeReadSupply_refuses out _)
  case tableOpen => exact exec_answered ha hf rfl (takeTableOpen_refuses out _)
  case tableRead => exact exec_answered ha hf rfl (takeTableRead_refuses out _ _)
  all_goals exact out.elim

end

section
/-! SUPPORT. Frame and record layouts: the request that each frame spells (R174, R176). -/

open Sys2Proof Sys2Proof.Machine

/-- Settles O7: the kind, the length and the fields are read back one after another by `Frame.asks_of_frameOf?`, on which
the bytes on the wire rest as well. -/
theorem frameSpellsItsRequest : Obligations.FrameSpellsItsRequest := by
  unfold Obligations.FrameSpellsItsRequest
  intro i frame hw hf
  exact Frame.asks_of_frameOf? hw hf

end

section
/-! SUPPORT. The step with a command waiting: the front of the queue, on the rest. -/

namespace Sys2Proof.Machine

/-- Only the queue set last counts. -/
@[simp] theorem State.withPending_withPending (s : State) (q r : List Instr) :
    (s.withPending q).withPending r = s.withPending r := rfl

theorem step_of_pending {s : State} {c : Instr} {rest : List Instr} (hq : s.pending = c :: rest) :
    step s = exec c (s.withPending rest) := by
  simp [step, hq]

end Sys2Proof.Machine

open Sys2Proof Sys2Proof.Machine

/-- Settles O1: the step takes the front of the queue, and the rest replaces the whole queue. -/
theorem stepRunsTheCommandInFront : Obligations.StepRunsTheCommandInFront := by
  unfold Obligations.StepRunsTheCommandInFront
  intro c rest s
  calc step (s.withPending (c :: rest))
      = exec c ((s.withPending (c :: rest)).withPending rest) := step_of_pending (s.withPending_pending _)
    _ = exec c (s.withPending rest) := by rw [State.withPending_withPending]

end
